-- ==== Sys2Proof/Word.lean ====
section
/-! DEFINITION. The word, the byte and the byte-lane types of the frame store (00_scope.md, Conventions; R1). -/

namespace Sys2Proof

/-- A word of the store bus and of the frame store: 32 bits, bit 31 the most significant. -/
abbrev Word := BitVec 32

/-- A byte of the frame store. -/
abbrev Byte := BitVec 8

/-- The four byte-lane enables of a written word (R1); bit `i` is the enable of byte lane `i`. -/
abbrev ByteLanes := BitVec 4

/-- Every byte lane enabled: a full write. -/
abbrev fullLanes : ByteLanes := 15

/-- One value for each of the three picture channels R, G and B. -/
structure Rgb (α : Type) where
  r : α
  g : α
  b : α
deriving DecidableEq, Repr, Inhabited

end Sys2Proof
end

