-- ==== Sys2Proof/Syntax.lean ====
section
/-! DEFINITION. The commands of the part: one constructor of `Instr` for each row of spec/opcode_table.json. A row is
one indivisible step of the part (95_what_each_step_holds.md): a transaction or a written word on the store bus, an event on
a line, a completion inside the part, or a time-out. -/

namespace Sys2Proof

/-- The four masters of the store bus (R1). AUX is treated as CONTROL throughout the manual. -/
inductive Master where
  | control | scan | output | aux
deriving DecidableEq, Repr, Inhabited

/-- The level of DIR at an edge: low is FORWARD, high is REVERSE (R25). -/
inductive Direction where
  | forward | reverse
deriving DecidableEq, Repr, Inhabited

/-- The four tables, in the order in which the reload engine serves them (R22). -/
inductive TableId where
  | gradeList | records | curves | windows
deriving DecidableEq, Repr, Inhabited

/-- A table item: a grade-list slot, a grade record, a curve or a window entry (R24). -/
inductive ItemRef where
  | slot (index : Fin 512)
  | record (index : Fin 256)
  | curve (index : Fin 16)
  | window (index : Fin 16)
deriving DecidableEq, Repr, Inhabited

/-- A word other than word 0 of a table item. The second field is the word's offset in the item less 1. -/
inductive TableWord where
  | slot (index : Fin 512) (below : Fin 3)
  | record (index : Fin 256) (below : Fin 7)
  | curve (index : Fin 16) (below : Fin 16)
  | window (index : Fin 16) (below : Fin 3)
deriving DecidableEq, Repr, Inhabited

/-- One word of a write burst: its data and its byte-lane enables (R1). -/
structure WriteWord where
  data : Word
  lanes : ByteLanes
deriving DecidableEq, Repr, Inhabited

/-- The direction of a transaction, with what it carries (R1). -/
inductive TransferBody where
  | read (length : Nat)
  | write (words : List WriteWord)
deriving DecidableEq, Repr, Inhabited

/-- A transaction of the master side: tag, byte address of the first word, and the words (R1). -/
structure Transaction where
  master : Master
  address : Nat
  body : TransferBody
deriving DecidableEq, Repr, Inhabited

/-- The setup words of the Restart class: word 4 (H and W) and words 5 to 8 (the frame buffer bases) (R8, R199). -/
inductive RestartWord where
  | geometry
  | bufferBase (buffer : Fin 4)
deriving DecidableEq, Repr, Inhabited

/-- The setup words of the Ring reset class: words 13 and 14 (R8, R199). -/
inductive RingWord where
  | base
  | size
deriving DecidableEq, Repr, Inhabited

/-- The command codes 5 to 7, which name no command (R9, R199). -/
inductive UnnamedCode where
  | five | six | seven
deriving DecidableEq, Repr, Inhabited

/-- The fields of the command word beside the command code: the profile number in bits 28 to 24 and the preset frame
number in bits 23 to 0 (R199). A command that does not use a field still carries it. -/
structure CommandArgs where
  profile : BitVec 5
  preset : BitVec 24
deriving DecidableEq, Repr, Inhabited

/-- The commands of the part, one constructor for each row of spec/opcode_table.json. -/
inductive Instr where
  /-- RST_ASSERT (R21): RST is asserted. -/
  | rstAssert
  /-- RST_RELEASE (R21): RST is released with the strap pins SETUP_SEL at `setupSel`. -/
  | rstRelease (setupSel : Fin 8)
  /-- POWER_LOSS (R181): power is lost and returns; the part is held in RST. -/
  | powerLoss
  /-- SETUP_READ_COMPLETE (R21): the setup reload read in progress completes. -/
  | setupReadComplete
  /-- PASSED_TRANSACTION (R1): a master presents a transaction. -/
  | passedTransaction (t : Transaction)
  /-- SETUP_WRITE (R8): a full write of a setup word. -/
  | setupWrite (m : Master) (word : Fin 64) (data : Word)
  /-- LAYOUT_REVISION_WRITE (R18, R19): a full write of setup word 0. -/
  | layoutRevisionWrite (m : Master) (data : Word)
  /-- ENABLE (R20): a full write of setup word 0 with revision 1; `low` is bits 23 to 0, ENABLE its bit 0. -/
  | enable (m : Master) (low : BitVec 24)
  /-- ATTN_ENABLE (R192): a full write of setup word 0 with revision 1; ATTN enable is bit 1 of `low`. -/
  | attnEnable (m : Master) (low : BitVec 24)
  /-- CONSUMER_INDEX_WRITE (R191): a full write of setup word 2. -/
  | consumerIndexWrite (m : Master) (data : Word)
  /-- RESTART (R11): a full write of a setup word of the Restart class. -/
  | restart (m : Master) (word : RestartWord) (data : Word)
  /-- RETARGET (R12): a full write of the setup word that holds a table's base. -/
  | retarget (m : Master) (table : TableId) (data : Word)
  /-- RING_RESET (R193): a full write of a setup word of the Ring reset class. -/
  | ringReset (m : Master) (word : RingWord) (data : Word)
  /-- LEGAL_WORD_WRITE (R15): a full write of setup word 18. -/
  | legalWordWrite (m : Master) (data : Word)
  /-- PPF_CHANGE (R30): a full write of setup word 15, which carries ppf. -/
  | ppfChange (m : Master) (data : Word)
  /-- UNNAMED_COMMAND_CODE (R9): the command word with a code that names no command. -/
  | unnamedCommandCode (m : Master) (code : UnnamedCode) (args : CommandArgs)
  /-- FRAME_PRESET (R31): the command word with code 1. -/
  | framePreset (m : Master) (args : CommandArgs)
  /-- RELOAD_ALL (R22): the command word with code 2. -/
  | reloadAll (m : Master) (args : CommandArgs)
  /-- PROGRAM_PROFILE (R178): the command word with code 3. -/
  | programProfile (m : Master) (args : CommandArgs)
  /-- READ_PROFILE (R182): the command word with code 4. -/
  | readProfile (m : Master) (args : CommandArgs)
  /-- TABLE_WORD_WRITE (R24): a full write of word 1 or above of a table item. -/
  | tableWordWrite (m : Master) (item : TableWord) (data : Word)
  /-- PARTIAL_WRITE (R5): a written word with a byte lane disabled, at a word address of the store. -/
  | partialWrite (m : Master) (wordAddress : BitVec 24) (data : Word) (lanes : ByteLanes)
  /-- SLOT_COMMIT (R47): a full write of word 0 of a grade-list slot. -/
  | slotCommit (m : Master) (slot : Fin 512) (data : Word)
  /-- RECORD_COMMIT (R70): a full write of word 0 of a grade record. -/
  | recordCommit (m : Master) (record : Fin 256) (data : Word)
  /-- CURVE_COMMIT (R72): a full write of word 0 of a curve. -/
  | curveCommit (m : Master) (curve : Fin 16) (data : Word)
  /-- WINDOW_COMMIT (R73): a full write of word 0 of a window. -/
  | windowCommit (m : Master) (window : Fin 16) (data : Word)
  /-- RELOAD_READ_COMPLETE (R22): the table reload read in progress completes. -/
  | reloadReadComplete
  /-- OWN_ACCESS_ISSUE (R6): the memory port is free and the arbiter issues an access of the part's own. -/
  | ownAccessIssue
  /-- PICTURE_WORD (R95): a full SCAN write with tag 00 and channels `pixel` at a word address of the store. -/
  | pictureWord (wordAddress : BitVec 24) (pixel : Rgb (BitVec 10))
  /-- PERF_EDGE (R25): a rising edge on PERF, with DIR at the level that `dir` names. -/
  | perfEdge (dir : Direction)
  /-- STOP_LIMIT_EXPIRY (R34): the stop limit's time is up. -/
  | stopLimitExpiry
  /-- CUE_PULSE_END (R43): the CUE pulse's time is up. -/
  | cuePulseEnd
  /-- DIVISION_COMPLETE (R140): the division in progress completes. -/
  | divisionComplete
  /-- CELL_WRITE_COMPLETE (R179): a write of profile cells completes; bit `i` of `took` is 1 when cell `i` of the
  profile took the value written (invert is cell 66, then base R, G, B and scale R, G, B, most significant bit first). -/
  | cellWriteComplete (took : BitVec 67)
  /-- PROFILE_VERIFY (R179): a verify of profile cells completes. -/
  | profileVerify
  /-- PROGRAM_TIMEOUT (R179): the program time limit is up. -/
  | programTimeout
  /-- RECORD_SELECT (R188): the RPW looks at the oldest staged record. -/
  | recordSelect
  /-- REPORT_WRITE_COMPLETE (R189): the report write in progress completes. -/
  | reportWriteComplete
deriving DecidableEq, Repr, Inhabited

end Sys2Proof
end

