-- ==== Sys2Proof/Config.lean ====
section
/-! DEFINITION. What one part fixes: the extent of the frame store, and the two free values that the spec leaves open.
A free value has no body, so nothing can be proved of the value it takes. -/

namespace Sys2Proof

/-- The frame store holds 64 MiB, addressed by 26-bit byte addresses (00_scope.md, The part in its system; R1, R2). -/
def Config.storeBytes : Nat := 0x4000000

/-- FREE VALUE (assumption 5). The cells of a profile that a write abandoned by a time-out, RST or loss of power had
reached (R179, R181): one bit for each of the 67 cells of a profile, 1 for a cell that already holds the new value.
The argument is `State.freeCount`, so each abandoned write has a value of its own. -/
opaque Config.cellsReached : Nat → BitVec 67

/-- FREE VALUE (assumption 6). How many words of a report write in progress had reached memory when RST abandoned it
(R21, R194). The argument is `State.freeCount`. -/
opaque Config.wordsReached : Nat → Nat

end Sys2Proof
end

