-- ==== Sys2Proof/Machine/State.lean ====
section
/-! DEFINITION. The state of the part as plain data, block by block in the order of 00_scope.md's block overview, the values
each block takes at RST, and `State.reset`. Each field's docstring names the rule that gives it. -/

namespace Sys2Proof.Machine

/-! ## Setup values (SBI) -/

/-- One value for each of the four tables. -/
structure PerTable (α : Type) where
  gradeList : α
  records : α
  curves : α
  windows : α
deriving DecidableEq, Repr, Inhabited

/-- The part states (R17). -/
inductive PartState where
  | unset | loading | standby | active
deriving DecidableEq, Repr, Inhabited

/-- Substitution modes (R101, R199). -/
inductive SubstitutionMode where
  | off | flat | bars | leader
deriving DecidableEq, Repr, Inhabited

/-- The seven values of a stock profile (R171): 1 + 3 × 10 + 3 × 12 = 67 cells. -/
structure ProfileValues where
  invert : Bool
  base : Rgb (BitVec 10)
  scale : Rgb (BitVec 12)
deriving DecidableEq, Repr, Inhabited

/-- The identity profile: invert clear, every base 0, every scale 1,024 (R112, R171). -/
def ProfileValues.identity : ProfileValues :=
  { invert := false, base := ⟨0, 0, 0⟩, scale := ⟨1024, 1024, 1024⟩ }

/-- The At-next-frame-open values that a frame latches and keeps (R8, R10, R90). -/
structure FrameSetup where
  legalEnable : Bool
  legalLo : Nat
  legalHi : Nat
  mode : SubstitutionMode
  fill : Rgb Nat
  barLevel : Nat
  summaryEnable : Bool
  scdEnable : Bool
  cellThreshold : Nat
  frameThreshold : Nat
  holdoff : Nat
  speedLo : Nat
  speedHi : Nat
deriving DecidableEq, Repr, Inhabited

/-- The setup values in use (R8, R14, R16, R199). The consumer index in use is held by the ring (R13, R191). -/
structure Setup where
  programEnable : Bool
  attnEnable : Bool
  enable : Bool
  width : Nat
  height : Nat
  bufferBase : Vector Nat 4
  tableBase : PerTable Nat
  ringBase : Nat
  ringSize : Nat
  perfGuard : Nat
  ppf : Nat
  stopLimit : Nat
  /-- in µs: 2,500, 5,000, 10,000 or 20,000 -/
  programLimit : Nat
  cueWidth : Nat
  frame : FrameSetup
  defaultProfile : Fin 32
  defaultRecord : Fin 256
  gateOffset : Int
  staging : ProfileValues
deriving DecidableEq, Repr, Inhabited

/-! ## The reload engine and the memory port (SBI) -/

/-- A table's pending mark and next-item index (R22). -/
structure TableProgress where
  pending : Bool
  next : Nat
deriving DecidableEq, Repr, Inhabited

/-- The two reads of a table item: words 1 and up, then word 0 (R22). -/
inductive ItemPart where
  | rest
  | word0
deriving DecidableEq, Repr, Inhabited

/-- A reload read: one of the four 16-word setup reads (R21), or a part of a table item (R22). -/
inductive ReloadRead where
  | setup (quarter : Fin 4)
  | item (ref : ItemRef) (part : ItemPart)
deriving DecidableEq, Repr, Inhabited

/-- A report write (R189, R193): the record's words up to the top of the ring, its words from offset 0, the head word
that follows a record, or the head word of a pending publication. -/
inductive ReportWrite where
  | recordWords
  | recordWrapped
  | recordHead
  | publication
deriving DecidableEq, Repr, Inhabited

/-- An own access in progress on the memory side (R6). A reload read whose words are to be discarded is marked (R12,
R19, R22). A report write holds the addresses and words it was issued with, and a mark when the record or publication it
belongs to no longer waits for it (R193, R194). -/
inductive OwnAccess where
  | reload (read : ReloadRead) (discard : Bool)
  | report (write : ReportWrite) (cells : List (Nat × Word)) (withdrawn : Bool)
deriving DecidableEq, Repr, Inhabited

/-- The memory-side port and what waits for it (R6, R196): at most one reload read and one report write requested, at
most one own access in progress, and the transactions that arrived while it was, oldest first. -/
structure MemoryPort where
  reloadRequest : Option ReloadRead
  reportRequest : Option ReportWrite
  inProgress : Option OwnAccess
  waiting : List Transaction
deriving DecidableEq, Repr, Inhabited

/-- The words that one read returned to its master (R1). -/
structure ReadReturn where
  master : Master
  words : List Word
deriving DecidableEq, Repr, Inhabited

/-! ## Table shadows (TCU) -/

/-- A committed copy: word 0 and the words 1 and up taken with it (R24). -/
structure Committed (n : Nat) where
  first : Word
  rest : Vector Word n
deriving DecidableEq, Repr, Inhabited

/-- The shadow of a table item with `n` words beside word 0 (R24). The committed mark is the presence of the copy. -/
structure Item (n : Nat) where
  staged : Vector Word n
  committed : Option (Committed n)
deriving DecidableEq, Repr, Inhabited

/-- A cleared item: every staged word 0, uncommitted (R24). -/
def Item.cleared (n : Nat) : Item n := { staged := Vector.replicate n 0, committed := none }

/-- The shadows of the four tables (R24, R46, R69, R71, R73). -/
structure Shadows where
  slots : Vector (Item 3) 512
  records : Vector (Item 7) 256
  curves : Vector (Item 16) 16
  windows : Vector (Item 3) 16
deriving DecidableEq, Repr, Inhabited

/-! ## The ordered list (GLI) -/

/-- The statuses of a grade-list slot (R48). -/
inductive SlotStatus where
  | uncommitted | invalid | listed | conflict
deriving DecidableEq, Repr, Inhabited

/-- A slot's fields other than valid (R46). -/
structure SlotFields where
  start : Int
  grade : Fin 256
  profile : Fin 32
  dissolve : Nat
  window : Option (Fin 16)
  windowGrade : Option (Fin 256)
  holdScd : Bool
deriving DecidableEq, Repr, Inhabited

/-- An entry of the ordered list: the slot number and a copy of the slot's fields as committed (R48). -/
structure Entry where
  slot : Fin 512
  fields : SlotFields
deriving DecidableEq, Repr, Inhabited

/-- The GLI's state (R48). -/
structure GradeList where
  status : Vector SlotStatus 512
  ordered : List Entry
deriving DecidableEq, Repr, Inhabited

/-- A lookup result (R60): NO_ENTRY; the covering entry with "at start"; or the covering entry with the outgoing entry
and j. -/
inductive Lookup where
  | noEntry
  | covered (entry : Entry) (atStart : Bool)
  | dissolve (entry : Entry) (atStart : Bool) (outgoing : Entry) (j : Nat)
deriving DecidableEq, Repr, Inhabited

/-! ## Footage Counter (FTC) -/

/-- The transport states (chapter Footage and Transport, state table). -/
inductive TransportState where
  | stopped | running
deriving DecidableEq, Repr, Inhabited

/-- A CUE pulse: the counter value at its start and its width (R43). -/
structure CuePulse where
  start : BitVec 20
  width : Nat
deriving DecidableEq, Repr, Inhabited

/-- The FTC's state (chapter Footage and Transport, state table). -/
structure Footage where
  number : Int
  phase : Nat
  limit : Bool
  transport : TransportState
  direction : Direction
  clock : BitVec 20
  lastEdge : Option (BitVec 20)
  interval : Option Nat
  speed : Option Nat
  glitches : Nat
  cue : Option CuePulse
deriving DecidableEq, Repr, Inhabited

/-! ## Frame Tracker (FTR) -/

/-- The substitution of a frame (R90, R101). -/
inductive Substitution where
  | none | flat | bars
deriving DecidableEq, Repr, Inhabited

/-- The flags of a frame (R90, R105). -/
structure FrameFlags where
  truncated : Bool
  mixLate : Bool
  profileHeld : Bool
  profileBad : Bool
  gradeMissing : Bool
  noEntry : Bool
  substituted : Bool
deriving DecidableEq, Repr, Inhabited

/-- The open-frame context (R90). `speed` is 0 when the speed was invalid at the open. -/
structure OpenFrame where
  buffer : Fin 4
  number : Int
  transport : TransportState
  direction : Direction
  speed : Nat
  lookup : Lookup
  setup : FrameSetup
  substitution : Substitution
  wordsGraded : Nat
  clipLow : Nat
  clipHigh : Nat
  flags : FrameFlags
deriving DecidableEq, Repr, Inhabited

/-- The FTR's state: the open-frame context, empty when no frame is open, and the orphan count (R90, R91). -/
structure Tracker where
  openFrame : Option OpenFrame
  orphans : Nat
deriving DecidableEq, Repr, Inhabited

/-! ## Grade lanes -/

/-- A latched curve: its 17 knots (R71, R79). -/
abbrev Curve := Vector Nat 17

/-- A record as a lane latched it (R78, R79). -/
structure GradeValues where
  lift : Rgb Int
  gain : Rgb Nat
  curve : Rgb (Option Curve)
  saturation : Nat
deriving DecidableEq, Repr, Inhabited

/-- The identity grade (R78). -/
def GradeValues.identity : GradeValues :=
  { lift := ⟨0, 0, 0⟩, gain := ⟨1024, 1024, 1024⟩, curve := ⟨none, none, none⟩, saturation := 256 }

/-- A rectangle of the picture (R73). -/
structure Rect where
  left : Nat
  top : Nat
  width : Nat
  height : Nat
deriving DecidableEq, Repr, Inhabited

/-- A latched window with its window record (R80). -/
structure WindowLatch where
  rect : Rect
  grade : GradeValues
deriving DecidableEq, Repr, Inhabited

/-- What a lane latches at a frame open (R78 to R80). -/
structure LaneLatch where
  main : GradeValues
  window : Option WindowLatch
deriving DecidableEq, Repr, Inhabited

/-- The kind of a held copy (R173). -/
inductive HeldKind where
  | loaded | substitute
deriving DecidableEq, Repr, Inhabited

/-- A lane's held copy of a stock profile (R173). -/
structure HeldProfile where
  number : Option (Fin 32)
  kind : HeldKind
  values : ProfileValues
deriving DecidableEq, Repr, Inhabited

/-- A grade lane: the copies it latched, and its held stock profile. -/
structure Lane where
  latch : Option LaneLatch
  held : HeldProfile
deriving DecidableEq, Repr, Inhabited

/-- The IN lane and the OUT lane. -/
structure LanePair where
  incoming : Lane
  outgoing : Lane
deriving DecidableEq, Repr, Inhabited

/-! ## Mix Stage and Divider Unit -/

/-- The pair of the step cache (R128). -/
structure StepPair where
  length : Nat
  step : Nat
deriving DecidableEq, Repr, Inhabited

/-- The waiting record: the N and j of the open frame (R128). -/
structure WaitingStep where
  length : Nat
  j : Nat
deriving DecidableEq, Repr, Inhabited

/-- The Mix Stage's state (R128). -/
structure MixStage where
  current : Nat
  cache : Option StepPair
  waiting : Option WaitingStep
deriving DecidableEq, Repr, Inhabited

/-- The divider's clients, in priority order (R140). -/
inductive Client where
  | mix | recip | speed
deriving DecidableEq, Repr, Inhabited

/-- A division request (R139). `stopped` is set when a stop-limit expiry occurs after the request was made; only the
SPEED client looks at it (R39). -/
structure Request where
  dividend : Nat
  divisor : Nat
  stopped : Bool
deriving DecidableEq, Repr, Inhabited

/-- A division in progress (R138). -/
structure Division where
  client : Client
  request : Request
deriving DecidableEq, Repr, Inhabited

/-- The DVU's state (R138). -/
structure Divider where
  inProgress : Option Division
  mix : Option Request
  recip : Option Request
  speed : Option Request
deriving DecidableEq, Repr, Inhabited

/-! ## Cut Detector (CUD) -/

/-- The reference: 384 means and a frame number (R148). -/
structure Reference where
  means : Vector Nat 384
  frame : Int
deriving DecidableEq, Repr, Inhabited

/-- The CUD's state (R148). -/
structure Detector where
  sums : Vector Nat 384
  recip : Option Nat
  recipValid : Bool
  reference : Option Reference
  lastCandidate : Option Int
  recentCuts : List Int
deriving DecidableEq, Repr, Inhabited

/-- The result of a judged frame (R158). -/
inductive CutResult where
  | noCut | holdoff | repeated | cut
deriving DecidableEq, Repr, Inhabited

/-- Why a frame is not judged (R154). -/
inductive NotJudged where
  | off | incomplete | subst | noRecip | transport | speed | hold | noRef
deriving DecidableEq, Repr, Inhabited

/-- The detector outcome of a frame (R164). -/
inductive DetectorOutcome where
  | judged (changed : Nat) (result : CutResult)
  | notJudged (reason : NotJudged)
deriving DecidableEq, Repr, Inhabited

/-! ## Profile Store (PFS) -/

/-- A profile's mark (R171). -/
inductive ProfileMark where
  | complete | incomplete
deriving DecidableEq, Repr, Inhabited

/-- A stock profile of the store (R171). -/
structure Profile where
  values : ProfileValues
  mark : ProfileMark
deriving DecidableEq, Repr, Inhabited

/-- Whether the cells are being written or verified (R179). -/
inductive ProgramPhase where
  | writing | verifying
deriving DecidableEq, Repr, Inhabited

/-- The programming operation (R172). -/
structure Programming where
  number : Fin 32
  values : ProfileValues
  limit : Nat
  acceptedAt : BitVec 20
  phase : ProgramPhase
deriving DecidableEq, Repr, Inhabited

/-- The PFS's state (R171, R172). The busy state is PROGRAMMING while there is an operation and IDLE otherwise. -/
structure ProfileStore where
  profiles : Vector Profile 32
  operation : Option Programming
deriving DecidableEq, Repr, Inhabited

/-! ## Report Writer (RPW) -/

/-- A ring pointer: a word offset and a wrap bit (R185). -/
structure RingPointer where
  offset : Nat
  wrap : Bool
deriving DecidableEq, Repr, Inhabited

/-- The body of a FRAME_SUMMARY record (R107). `inSlot` is absent when NO_ENTRY was set; `out` is the OUT slot and j of a
frame in a dissolve. -/
structure FrameSummary where
  number : Int
  buffer : Fin 4
  transport : TransportState
  direction : Direction
  inSlot : Option (Fin 512)
  outSlot : Option (Fin 512)
  j : Nat
  m : Nat
  wordsGraded : Nat
  orphans : Nat
  clipLow : Nat
  clipHigh : Nat
  flags : FrameFlags
  outcome : DetectorOutcome
  speed : Nat
  glitches : Nat
  lost : Nat
deriving DecidableEq, Repr, Inhabited

/-- The body of a CUT record (R161). -/
structure CutReport where
  frame : Int
  changed : Nat
  known : Bool
  slot : Option (Fin 512)
  speed : Nat
deriving DecidableEq, Repr, Inhabited

/-- The causes of a TRANSPORT record (R36). -/
structure TransportCauses where
  start : Bool
  stop : Bool
  reversal : Bool
  limit : Bool
deriving DecidableEq, Repr, Inhabited

/-- The body of a TRANSPORT record (R36). -/
structure TransportReport where
  causes : TransportCauses
  transport : TransportState
  direction : Direction
  number : Int
  phase : Nat
deriving DecidableEq, Repr, Inhabited

/-- The result of a programming operation (R179). -/
inductive ProgramResult where
  | verified | timedOut
deriving DecidableEq, Repr, Inhabited

/-- Why a profile command is refused (R177, R182). -/
inductive ProgramRefusal where
  | notEnabled | frameOpen | running | busy
deriving DecidableEq, Repr, Inhabited

/-- The two profile commands, as PROGRAM_REFUSED carries them (R201). -/
inductive ProfileCommand where
  | program | read
deriving DecidableEq, Repr, Inhabited

/-- A FAULT record's code with its detail words (R195). This is a report to the controller, not a stop of the machine. -/
inductive FaultReport where
  | dupStart (loser holder : Fin 512)
  | startRange (slot : Fin 512)
  | partialSnoop (address : Nat)
  | setupRange (address : Nat)
  | consumerRange (written : Word) (head : RingPointer)
  | programRefused (reason : ProgramRefusal) (command : ProfileCommand) (number : Fin 32)
deriving DecidableEq, Repr, Inhabited

/-- A report record (R186, R201). -/
inductive Record where
  | frameSummary (summary : FrameSummary)
  | cut (report : CutReport)
  | transport (report : TransportReport)
  | profileProgrammed (number : Fin 32) (result : ProgramResult)
  | profileRead (number : Fin 32) (profile : Profile)
  | fault (report : FaultReport)
deriving DecidableEq, Repr, Inhabited

/-- The RPW's state (R184). The record in flight, when there is one, is the oldest of the staging queue; the report write
it waits for is the one requested or in progress at the memory port. -/
structure ReportRing where
  queue : List Record
  head : RingPointer
  consumer : RingPointer
  lost : Nat
  inFlight : Bool
  publication : Bool
  attn : Bool
deriving DecidableEq, Repr, Inhabited

/-! ## The whole part -/

/-- The state of the part, with the frame store behind it and the queue of the commands that wait. -/
structure State where
  /-- RST is asserted (R21). -/
  resetAsserted : Bool
  /-- SETUP_SEL as sampled at the release of RST (R2, R21). -/
  setupSel : Fin 8
  /-- the part state (R17) -/
  partState : PartState
  /-- the setup shadow of 64 words (R8, R16) -/
  shadow : Vector Word 64
  /-- the setup values in use (R8, R16) -/
  setup : Setup
  /-- the pending marks and next-item indexes of the reload engine (R22) -/
  reload : PerTable TableProgress
  /-- the memory-side port (R6, R196) -/
  port : MemoryPort
  /-- the table shadows (R24) -/
  tables : Shadows
  /-- the slot statuses and the ordered list (R48) -/
  gradeList : GradeList
  /-- the Footage Counter -/
  footage : Footage
  /-- the Frame Tracker (R90) -/
  tracker : Tracker
  /-- the two grade lanes (R78, R173) -/
  lanes : LanePair
  /-- the Mix Stage (R128) -/
  mix : MixStage
  /-- the Divider Unit (R138) -/
  divider : Divider
  /-- the Cut Detector (R148) -/
  detector : Detector
  /-- the Profile Store (R171, R172) -/
  profiles : ProfileStore
  /-- the Report Writer (R184) -/
  ring : ReportRing
  /-- the frame store: address and byte pairs, strictly rising, none equal to what an unlisted address reads as -/
  store : List Host.Cell
  /-- the MODEL's own: the words returned to the masters by the reads forwarded so far, oldest first (R1) -/
  returned : List ReadReturn
  /-- the MODEL's own: how many free values have been drawn -/
  freeCount : Nat
  /-- the MODEL's own: the commands that wait, first in, first out -/
  pending : List Instr
deriving DecidableEq, Repr

/-- Why the machine stops with a fault. -/
inductive Fault where
  /-- Raised by `execPassedTransaction` for a term that is no transaction of the store bus (R1: 1 to 16 words, first word
  at a word-aligned address of the store). SAFE: no master presents such a transaction. -/
  | malformedTransaction
deriving DecidableEq, Repr

/-- Why a command is refused. -/
inductive Refusal where
  /-- A command without a meaning in this model; raised by `exec` only. SAFE: nothing is claimed of it. -/
  | notModelled (mnemonic : String)
deriving DecidableEq, Repr

/-! ## The values at RST -/

/-- R16. -/
def FrameSetup.reset : FrameSetup :=
  { legalEnable := false, legalLo := 64, legalHi := 940, mode := .off, fill := ⟨0, 0, 0⟩, barLevel := 721,
    summaryEnable := false, scdEnable := false, cellThreshold := 0, frameThreshold := 1, holdoff := 0,
    speedLo := 0, speedHi := 65535 }

/-- R16. -/
def Setup.reset : Setup :=
  { programEnable := false, attnEnable := false, enable := false, width := 2048, height := 1600,
    bufferBase := Vector.replicate 4 0, tableBase := ⟨0, 0, 0, 0⟩, ringBase := 0, ringSize := 256,
    perfGuard := 0, ppf := 4, stopLimit := 50000, programLimit := 2500, cueWidth := 0,
    frame := FrameSetup.reset, defaultProfile := 0, defaultRecord := 0, gateOffset := 0,
    staging := { invert := false, base := ⟨0, 0, 0⟩, scale := ⟨0, 0, 0⟩ } }

/-- R21: no table pending and every next-item index 0. -/
def TableProgress.reset : TableProgress := { pending := false, next := 0 }

/-- R21: nothing requested and nothing in progress. -/
def MemoryPort.reset : MemoryPort :=
  { reloadRequest := none, reportRequest := none, inProgress := none, waiting := [] }

/-- R24, R75: every shadow clear. -/
def Shadows.reset : Shadows :=
  { slots := Vector.replicate 512 (Item.cleared 3), records := Vector.replicate 256 (Item.cleared 7),
    curves := Vector.replicate 16 (Item.cleared 16), windows := Vector.replicate 16 (Item.cleared 3) }

/-- R48, R57: every slot UNCOMMITTED and the ordered list empty. -/
def GradeList.reset : GradeList := { status := Vector.replicate 512 .uncommitted, ordered := [] }

/-- R45. -/
def Footage.reset : Footage :=
  { number := 0, phase := 0, limit := false, transport := .stopped, direction := .forward, clock := 0,
    lastEdge := none, interval := none, speed := none, glitches := 0, cue := none }

/-- R91. -/
def Tracker.reset : Tracker := { openFrame := none, orphans := 0 }

/-- R85, R173: no latched copy; number none, kind LOADED, the identity values. -/
def Lane.reset : Lane :=
  { latch := none, held := { number := none, kind := .loaded, values := ProfileValues.identity } }

/-- R128, R146. -/
def MixStage.reset : MixStage := { current := 256, cache := none, waiting := none }

/-- R138, R146. -/
def Divider.reset : Divider := { inProgress := none, mix := none, recip := none, speed := none }

/-- R148, R169. -/
def Detector.reset : Detector :=
  { sums := Vector.replicate 384 0, recip := none, recipValid := false, reference := none,
    lastCandidate := none, recentCuts := [] }

/-- R171: every profile COMPLETE and holding the identity profile, as the part leaves the factory. -/
def ProfileStore.factory : ProfileStore :=
  { profiles := Vector.replicate 32 { values := ProfileValues.identity, mark := .complete }, operation := none }

/-- R184, R194. -/
def ReportRing.reset : ReportRing :=
  { queue := [], head := ⟨0, false⟩, consumer := ⟨0, false⟩, lost := 0, inFlight := false,
    publication := false, attn := false }

/-- The part with RST asserted (R21) over a factory-fresh profile store and a frame store that nothing has written
(assumptions 3 and 4). -/
def State.held : State :=
  { resetAsserted := true, setupSel := 0, partState := .unset, shadow := Vector.replicate 64 0,
    setup := Setup.reset,
    reload := ⟨TableProgress.reset, TableProgress.reset, TableProgress.reset, TableProgress.reset⟩,
    port := MemoryPort.reset, tables := Shadows.reset, gradeList := GradeList.reset, footage := Footage.reset,
    tracker := Tracker.reset, lanes := ⟨Lane.reset, Lane.reset⟩, mix := MixStage.reset,
    divider := Divider.reset, detector := Detector.reset, profiles := ProfileStore.factory,
    ring := ReportRing.reset, store := [], returned := [], freeCount := 0, pending := [] }

/-- The part right after the first release of RST, with SETUP_SEL at 0 (assumption 3): as `State.held`, with RST
released and the first of the four setup reads requested (R21, R196). -/
def State.reset : State :=
  { State.held with
    resetAsserted := false
    port := { MemoryPort.reset with reloadRequest := some (.setup 0) } }

/-! ## One update for each field -/

def State.withResetAsserted (s : State) (v : Bool) : State := { s with resetAsserted := v }
def State.withSetupSel (s : State) (v : Fin 8) : State := { s with setupSel := v }
def State.withPartState (s : State) (v : PartState) : State := { s with partState := v }
def State.withShadow (s : State) (v : Vector Word 64) : State := { s with shadow := v }
def State.withSetup (s : State) (v : Setup) : State := { s with setup := v }
def State.withReload (s : State) (v : PerTable TableProgress) : State := { s with reload := v }
def State.withPort (s : State) (v : MemoryPort) : State := { s with port := v }
def State.withTables (s : State) (v : Shadows) : State := { s with tables := v }
def State.withGradeList (s : State) (v : GradeList) : State := { s with gradeList := v }
def State.withFootage (s : State) (v : Footage) : State := { s with footage := v }
def State.withTracker (s : State) (v : Tracker) : State := { s with tracker := v }
def State.withLanes (s : State) (v : LanePair) : State := { s with lanes := v }
def State.withMix (s : State) (v : MixStage) : State := { s with mix := v }
def State.withDivider (s : State) (v : Divider) : State := { s with divider := v }
def State.withDetector (s : State) (v : Detector) : State := { s with detector := v }
def State.withProfiles (s : State) (v : ProfileStore) : State := { s with profiles := v }
def State.withRing (s : State) (v : ReportRing) : State := { s with ring := v }
def State.withStore (s : State) (v : List Host.Cell) : State := { s with store := v }
def State.withReturned (s : State) (v : List ReadReturn) : State := { s with returned := v }
def State.withFreeCount (s : State) (v : Nat) : State := { s with freeCount := v }
def State.withPending (s : State) (v : List Instr) : State := { s with pending := v }

end Sys2Proof.Machine
end

