-- ==== Sys2Proof/Machine/Operands.lean ====
section
/-! DEFINITION. The fields of every word the part reads or writes (chapter Formats in Memory): bit fields, the setup
words, the table items, the picture word and the ring pointer. -/

namespace Sys2Proof

/-! ## What the operands of a command name -/

/-- The table an item belongs to. -/
def ItemRef.table : ItemRef → TableId
  | .slot _ => .gradeList
  | .record _ => .records
  | .curve _ => .curves
  | .window _ => .windows

/-- An item's number in its table. -/
def ItemRef.index : ItemRef → Nat
  | .slot i => i.val
  | .record i => i.val
  | .curve i => i.val
  | .window i => i.val

/-- The number of items of a table (R2). -/
def TableId.count : TableId → Nat
  | .gradeList => 512
  | .records => 256
  | .curves => 16
  | .windows => 16

/-- The number of bytes from one item of a table to the next (R2). -/
def TableId.stride : TableId → Nat
  | .gradeList => 16
  | .records => 32
  | .curves => 128
  | .windows => 16

/-- The words of an item beside word 0 (R2, R22). -/
def TableId.restWords : TableId → Nat
  | .gradeList => 3
  | .records => 7
  | .curves => 16
  | .windows => 3

/-- The item that a `TableWord` names. -/
def TableWord.ref : TableWord → ItemRef
  | .slot i _ => .slot i
  | .record i _ => .record i
  | .curve i _ => .curve i
  | .window i _ => .window i

/-- The word offset that a `TableWord` names. -/
def TableWord.offset : TableWord → Nat
  | .slot _ b => b.val + 1
  | .record _ b => b.val + 1
  | .curve _ b => b.val + 1
  | .window _ b => b.val + 1

/-- The command codes 5 to 7 (R199). -/
def UnnamedCode.toBits : UnnamedCode → BitVec 3
  | .five => 5
  | .six => 6
  | .seven => 7

end Sys2Proof

namespace Sys2Proof.Machine

/-! ## Bit fields (R198) -/

/-- The unsigned field of `len` bits whose lowest bit is bit `lo`. -/
def bits (w : Word) (lo len : Nat) : Nat := (w.extractLsb' lo len).toNat

/-- The signed field of `len` bits whose lowest bit is bit `lo`: two's complement over its own width. -/
def signedBits (w : Word) (lo len : Nat) : Int := (w.extractLsb' lo len).toInt

/-- Bit `i` as a flag. -/
def bit (w : Word) (i : Nat) : Bool := w.getLsbD i

/-- The field of `len` bits at `lo` where the present bit `p` is 1, and absent where it is 0 (R198). -/
def optional {n : Nat} [NeZero n] (w : Word) (p lo len : Nat) : Option (Fin n) :=
  if bit w p then some (Fin.ofNat n (bits w lo len)) else none

/-- The three channels in bits 29 to 20, 19 to 10 and 9 to 0 (R88). -/
def channels (w : Word) : Rgb Nat := ⟨bits w 20 10, bits w 10 10, bits w 0 10⟩

/-- A value bounded to `lo` to `hi` (00_scope.md, Arithmetic). -/
def clampNat (lo hi v : Nat) : Nat := max lo (min hi v)

/-- A value bounded to `lo` to `hi` (00_scope.md, Arithmetic). -/
def clampInt (lo hi v : Int) : Int := max lo (min hi v)

/-- An unsigned value with the place of its field: the field's lowest bit and its number of bits. -/
structure WordField where
  value : Nat
  lo : Nat
  len : Nat
deriving DecidableEq, Repr, Inhabited

/-- A word made of unsigned fields; every other bit is 0 (R198). A value wider than its field, which no run holds, is cut
to the field (assumption 27). -/
def packWord (fields : List WordField) : Word :=
  BitVec.ofNat 32 (fields.foldl (fun acc f => acc + f.value % 2 ^ f.len * 2 ^ f.lo) 0)

/-- A flag as a field of one bit. -/
def flagBit (b : Bool) : Nat := if b then 1 else 0

/-- A signed value as a two's complement field of 24 bits (R198). -/
def signed24 (v : Int) : Nat := (BitVec.ofInt 24 v).toNat

/-- A byte address of 26 bits whose two lowest bits are ignored (R2, R199). -/
def baseAddress (w : Word) : Nat := 4 * bits w 2 24

/-! ## Per-table values -/

def PerTable.get {α : Type} (p : PerTable α) : TableId → α
  | .gradeList => p.gradeList
  | .records => p.records
  | .curves => p.curves
  | .windows => p.windows

def PerTable.set {α : Type} (p : PerTable α) (t : TableId) (v : α) : PerTable α :=
  match t with
  | .gradeList => { p with gradeList := v }
  | .records => { p with records := v }
  | .curves => { p with curves := v }
  | .windows => { p with windows := v }

/-! ## Setup words (R199) -/

/-- What a setup word carries, in the order of R199's table. -/
inductive SetupWord where
  | control | command | consumer | head | geometry
  | bufferBase (buffer : Fin 4)
  | tableBase (table : TableId)
  | ringBase | ringSize | footage | stopLimit | cueAndProgram | legal | substitution | defaults
  | scanEnables | thresholds | speedWindow | stagingBase | stagingScaleRG | stagingScaleB
  | noField
deriving DecidableEq, Repr, Inhabited

/-- The setup words 0 to 26; words 27 to 63 carry no field (R199). -/
def setupLayout : List SetupWord :=
  [.control, .command, .consumer, .head, .geometry,
   .bufferBase 0, .bufferBase 1, .bufferBase 2, .bufferBase 3,
   .tableBase .gradeList, .tableBase .records, .tableBase .curves, .tableBase .windows,
   .ringBase, .ringSize, .footage, .stopLimit, .cueAndProgram, .legal, .substitution, .defaults,
   .scanEnables, .thresholds, .speedWindow, .stagingBase, .stagingScaleRG, .stagingScaleB]

/-- What setup word `k` carries. -/
def setupWordAt (k : Fin 64) : SetupWord := setupLayout.getD k.val .noField

/-- The offset of the setup words that commands name. -/
def restartOffset : RestartWord → Fin 64
  | .geometry => 4
  | .bufferBase b => ⟨5 + b.val, by omega⟩

def retargetOffset : TableId → Fin 64
  | .gradeList => 9
  | .records => 10
  | .curves => 11
  | .windows => 12

def ringWordOffset : RingWord → Fin 64
  | .base => 13
  | .size => 14

/-- The layout revision, bits 31 to 24 of word 0; the part accepts 1 (R18). -/
def revisionOf (w : Word) : Nat := bits w 24 8

/-- The command code, bits 31 to 29 of word 1 (R199). -/
def commandCodeOf (w : Word) : Nat := bits w 29 3

/-- Setup word 0 with revision 1 and `low` below it. -/
def controlWord (low : BitVec 24) : Word := 1#8 ++ low

/-- The command word (R199). -/
def commandWord (code : BitVec 3) (args : CommandArgs) : Word := code ++ args.profile ++ args.preset

/-- R15: a legal word whose lo is greater than its hi is refused. -/
def legalRefused (w : Word) : Bool := decide (bits w 0 10 < bits w 16 10)

def substitutionModeOf (code : Nat) : SubstitutionMode :=
  match code with
  | 0 => .off
  | 1 => .flat
  | 2 => .bars
  | _ => .leader

/-- The program time limit of a code in µs: 2.5, 5, 10 or 20 ms (R199). -/
def programLimitOf (code : Nat) : Nat :=
  match code with
  | 0 => 2500
  | 1 => 5000
  | 2 => 10000
  | _ => 20000

/-- The setup values in use after the fields of a word are taken, clamped as R14 says, the legal word whole or not at all
(R15). The command word, the consumer index and the head word hold no value of `Setup`. -/
def takeFields (k : SetupWord) (w : Word) (u : Setup) : Setup :=
  match k with
  | .control => { u with programEnable := bit w 2, attnEnable := bit w 1, enable := bit w 0 }
  | .command | .consumer | .head | .noField => u
  | .geometry =>
      { u with height := clampNat 64 1600 (bits w 16 11), width := clampNat 96 2048 (bits w 0 12) }
  | .bufferBase b => { u with bufferBase := u.bufferBase.set b.val (baseAddress w) }
  | .tableBase t => { u with tableBase := u.tableBase.set t (baseAddress w) }
  | .ringBase => { u with ringBase := baseAddress w }
  | .ringSize => { u with ringSize := clampNat 256 16384 (bits w 0 15) }
  | .footage => { u with perfGuard := clampNat 0 1000 (bits w 16 10), ppf := clampNat 1 4 (bits w 0 3) }
  | .stopLimit => { u with stopLimit := clampNat 1000 1000000 (bits w 0 20) }
  | .cueAndProgram => { u with programLimit := programLimitOf (bits w 16 2), cueWidth := bits w 0 16 }
  | .legal =>
      if legalRefused w then u
      else { u with frame :=
              { u.frame with legalEnable := bit w 31, legalLo := bits w 16 10, legalHi := bits w 0 10 } }
  | .substitution =>
      { u with frame := { u.frame with mode := substitutionModeOf (bits w 30 2), fill := channels w } }
  | .defaults =>
      { u with
        defaultProfile := Fin.ofNat 32 (bits w 24 5)
        defaultRecord := Fin.ofNat 256 (bits w 16 8)
        frame := { u.frame with barLevel := bits w 0 10 } }
  | .scanEnables =>
      { u with
        gateOffset := clampInt (-8) 8 (signedBits w 0 5)
        frame := { u.frame with summaryEnable := bit w 31, scdEnable := bit w 30 } }
  | .thresholds =>
      { u with frame :=
          { u.frame with
            holdoff := bits w 24 8
            frameThreshold := clampNat 1 384 (bits w 12 9)
            cellThreshold := bits w 0 10 } }
  | .speedWindow => { u with frame := { u.frame with speedHi := bits w 16 16, speedLo := bits w 0 16 } }
  | .stagingBase =>
      { u with staging :=
          { u.staging with
            invert := bit w 31
            base := ⟨w.extractLsb' 20 10, w.extractLsb' 10 10, w.extractLsb' 0 10⟩ } }
  | .stagingScaleRG =>
      { u with staging :=
          { u.staging with
            scale := { u.staging.scale with g := w.extractLsb' 16 12, r := w.extractLsb' 0 12 } } }
  | .stagingScaleB =>
      { u with staging := { u.staging with scale := { u.staging.scale with b := w.extractLsb' 0 12 } } }

/-! ## Profile cells (R171) -/

/-- The 67 cells of a profile as seven values, most significant cell first. -/
def ProfileValues.ofCells (c : BitVec 67) : ProfileValues :=
  { invert := c.getLsbD 66
    base := ⟨c.extractLsb' 56 10, c.extractLsb' 46 10, c.extractLsb' 36 10⟩
    scale := ⟨c.extractLsb' 24 12, c.extractLsb' 12 12, c.extractLsb' 0 12⟩ }

/-- `new` where `mask` is 1 and `old` where it is 0. -/
def mixBits {n : Nat} (mask new old : BitVec n) : BitVec n := (new &&& mask) ||| (old &&& ~~~mask)

/-- The cells of a profile after a write that reached the cells of `reached` only: part of the old values and part of the
new (R179). -/
def mixCells (reached new old : ProfileValues) : ProfileValues :=
  { invert := if reached.invert then new.invert else old.invert
    base := ⟨mixBits reached.base.r new.base.r old.base.r, mixBits reached.base.g new.base.g old.base.g,
             mixBits reached.base.b new.base.b old.base.b⟩
    scale := ⟨mixBits reached.scale.r new.scale.r old.scale.r, mixBits reached.scale.g new.scale.g old.scale.g,
              mixBits reached.scale.b new.scale.b old.scale.b⟩ }

/-! ## Table items (R200) -/

/-- The valid bit of a table item's word 0. -/
def validBit (w : Word) : Bool := bit w 31

/-- A slot's fields (R46): the window grade is absent when the window is. -/
def Committed.slotFields (c : Committed 3) : SlotFields :=
  let w1 := c.rest[0]
  let w2 := c.rest[1]
  let window : Option (Fin 16) := optional w2 31 0 4
  { start := signedBits c.first 0 24
    grade := Fin.ofNat 256 (bits w1 0 8)
    profile := Fin.ofNat 32 (bits w1 8 5)
    dissolve := bits w1 16 8
    window := window
    windowGrade := if window.isSome then optional w2 30 8 8 else none
    holdScd := bit w1 31 }

/-- The curve a record names for each channel, or none (R69, R200). -/
def Committed.curveNames (c : Committed 7) : Rgb (Option (Fin 16)) :=
  ⟨optional c.rest[3] 7 0 4, optional c.rest[3] 15 8 4, optional c.rest[3] 23 16 4⟩

/-- A record's lift of the three channels (R69, R200). -/
def Committed.lift (c : Committed 7) : Rgb Int :=
  ⟨signedBits c.rest[0] 16 10, signedBits c.rest[1] 16 10, signedBits c.rest[2] 16 10⟩

/-- A record's gain of the three channels (R69, R200). -/
def Committed.gain (c : Committed 7) : Rgb Nat := ⟨bits c.rest[0] 0 12, bits c.rest[1] 0 12, bits c.rest[2] 0 12⟩

/-- A record's saturation (R69, R200). -/
def Committed.saturation (c : Committed 7) : Nat := bits c.first 0 9

/-- A curve's knots: k0 in word 0 and k1 to k16 in words 1 to 16 (R71, R200). -/
def Committed.knots (c : Committed 16) : Curve :=
  Vector.ofFn fun i : Fin 17 => if i.val = 0 then bits c.first 0 10 else bits ((c.rest[i.val - 1]?).getD 0) 0 10

/-- A window's rectangle (R73, R200). -/
def Committed.rect (c : Committed 3) : Rect :=
  { left := bits c.first 0 11, top := bits c.rest[0] 0 12, width := bits c.rest[1] 0 12, height := bits c.rest[2] 0 12 }

/-- Item `n` of a table. -/
def itemAt (t : TableId) (n : Nat) : ItemRef :=
  match t with
  | .gradeList => .slot (Fin.ofNat 512 n)
  | .records => .record (Fin.ofNat 256 n)
  | .curves => .curve (Fin.ofNat 16 n)
  | .windows => .window (Fin.ofNat 16 n)

/-! ## The picture word (R88) -/

/-- A word's tag 00 marks it as a picture word. -/
def isPicture (w : Word) : Bool := decide (bits w 30 2 = 0)

/-- The picture word of three channels, with tag 00. -/
def pictureWordOf (p : Rgb (BitVec 10)) : Word := 0#2 ++ p.r ++ p.g ++ p.b

/-- The word written to memory for three graded channels (R95, R124). -/
def gradedWord (p : Rgb Int) : Word :=
  pictureWordOf ⟨BitVec.ofInt 10 p.r, BitVec.ofInt 10 p.g, BitVec.ofInt 10 p.b⟩

/-! ## Ring pointers (R202) -/

/-- A pointer word: the wrap bit in bit 31 and the offset in bits 14 to 0. -/
def RingPointer.toWord (p : RingPointer) : Word := packWord [⟨flagBit p.wrap, 31, 1⟩, ⟨p.offset, 0, 15⟩]

def pointerOf (w : Word) : RingPointer := { offset := bits w 0 15, wrap := bit w 31 }

end Sys2Proof.Machine
end

