-- ==== Sys2Proof/Machine/Flags.lean ====
section
/-! DEFINITION. Flags, codes and the words of the report records (R201), and the flags that other blocks compute. -/

namespace Sys2Proof.Machine

/-! ## Flags and codes (R201) -/

def FrameFlags.clear : FrameFlags :=
  { truncated := false, mixLate := false, profileHeld := false, profileBad := false, gradeMissing := false,
    noEntry := false, substituted := false }

/-- The seven flag bits of a summary. -/
def FrameFlags.toBits (f : FrameFlags) : Nat :=
  flagBit f.truncated + 2 * flagBit f.mixLate + 4 * flagBit f.profileHeld + 8 * flagBit f.profileBad
    + 16 * flagBit f.gradeMissing + 32 * flagBit f.noEntry + 64 * flagBit f.substituted

def TransportCauses.toBits (c : TransportCauses) : Nat :=
  flagBit c.start + 2 * flagBit c.stop + 4 * flagBit c.reversal + 8 * flagBit c.limit

/-- Whether any cause is set. -/
def TransportCauses.any (c : TransportCauses) : Bool := c.start || c.stop || c.reversal || c.limit

def directionBit : Direction → Nat
  | .forward => 0
  | .reverse => 1

def transportBit : TransportState → Nat
  | .stopped => 0
  | .running => 1

def CutResult.code : CutResult → Nat
  | .noCut => 0
  | .holdoff => 1
  | .repeated => 2
  | .cut => 3

def NotJudged.code : NotJudged → Nat
  | .off => 0
  | .incomplete => 1
  | .subst => 2
  | .noRecip => 3
  | .transport => 4
  | .speed => 5
  | .hold => 6
  | .noRef => 7

def ProgramResult.code : ProgramResult → Nat
  | .verified => 0
  | .timedOut => 1

def ProgramRefusal.code : ProgramRefusal → Nat
  | .notEnabled => 0
  | .frameOpen => 1
  | .running => 2
  | .busy => 3

def ProfileCommand.code : ProfileCommand → Nat
  | .program => 0
  | .read => 1

def FaultReport.code : FaultReport → Nat
  | .dupStart _ _ => 1
  | .startRange _ => 2
  | .partialSnoop _ => 3
  | .setupRange _ => 4
  | .consumerRange _ _ => 5
  | .programRefused _ _ _ => 6

/-- The detail words of a FAULT record (R195, R201). -/
def FaultReport.details : FaultReport → List Word
  | .dupStart loser holder => [packWord [⟨loser.val, 0, 9⟩], packWord [⟨holder.val, 0, 9⟩]]
  | .startRange slot => [packWord [⟨slot.val, 0, 9⟩]]
  | .partialSnoop address => [packWord [⟨address, 0, 26⟩]]
  | .setupRange address => [packWord [⟨address, 0, 26⟩]]
  | .consumerRange written head => [written, head.toWord]
  | .programRefused reason command number =>
      [packWord [⟨reason.code, 0, 2⟩], packWord [⟨command.code, 31, 1⟩, ⟨number.val, 0, 5⟩]]

/-! ## Record words (R201) -/

/-- A slot number field with its present bit: 0 and 0 when absent (R198). -/
def slotField (s : Option (Fin 512)) (present lo : Nat) : List WordField :=
  match s with
  | some i => [⟨1, present, 1⟩, ⟨i.val, lo, 9⟩]
  | none => []

/-- The detector outcome in body word 8 of a summary. -/
def DetectorOutcome.fields : DetectorOutcome → List WordField
  | .judged changed result => [⟨1, 31, 1⟩, ⟨result.code, 28, 3⟩, ⟨changed, 16, 9⟩]
  | .notJudged reason => [⟨reason.code, 28, 3⟩]

def FrameSummary.body (r : FrameSummary) : List Word :=
  [packWord [⟨directionBit r.direction, 31, 1⟩, ⟨transportBit r.transport, 30, 1⟩, ⟨r.buffer.val, 24, 2⟩,
     ⟨signed24 r.number, 0, 24⟩],
   packWord (slotField r.inSlot 31 16 ++ slotField r.outSlot 15 0),
   packWord [⟨r.m, 16, 9⟩, ⟨r.j, 0, 8⟩],
   packWord [⟨r.wordsGraded, 0, 24⟩],
   packWord [⟨r.orphans, 0, 24⟩],
   packWord [⟨r.clipLow, 0, 24⟩],
   packWord [⟨r.clipHigh, 0, 24⟩],
   packWord (r.outcome.fields ++ [⟨r.flags.toBits, 0, 7⟩]),
   packWord [⟨r.glitches, 16, 16⟩, ⟨r.speed, 0, 16⟩],
   packWord [⟨r.lost, 0, 16⟩]]

def CutReport.body (r : CutReport) : List Word :=
  [packWord [⟨flagBit r.known, 31, 1⟩, ⟨signed24 r.frame, 0, 24⟩],
   packWord (slotField r.slot 31 0 ++ [⟨r.changed, 16, 9⟩]),
   packWord [⟨r.speed, 0, 16⟩]]

def TransportReport.body (r : TransportReport) : List Word :=
  [packWord [⟨directionBit r.direction, 31, 1⟩, ⟨transportBit r.transport, 30, 1⟩, ⟨r.phase, 8, 2⟩,
     ⟨r.causes.toBits, 0, 4⟩],
   packWord [⟨signed24 r.number, 0, 24⟩]]

/-- The contents words of a READ record: the layout of setup words 24 to 26, with the mark in bit 31 of the last. -/
def Profile.body (p : Profile) : List Word :=
  [packWord [⟨flagBit p.values.invert, 31, 1⟩, ⟨p.values.base.r.toNat, 20, 10⟩, ⟨p.values.base.g.toNat, 10, 10⟩,
     ⟨p.values.base.b.toNat, 0, 10⟩],
   packWord [⟨p.values.scale.g.toNat, 16, 12⟩, ⟨p.values.scale.r.toNat, 0, 12⟩],
   packWord [⟨flagBit (p.mark == .complete), 31, 1⟩, ⟨p.values.scale.b.toNat, 0, 12⟩]]

/-- The kind code of a record. -/
def Record.kind : Record → Nat
  | .frameSummary _ => 1
  | .cut _ => 2
  | .transport _ => 3
  | .profileProgrammed _ _ => 4
  | .profileRead _ _ => 4
  | .fault _ => 5

/-- The words of a record after its header. -/
def Record.body : Record → List Word
  | .frameSummary r => r.body
  | .cut r => r.body
  | .transport r => r.body
  | .profileProgrammed n result => [packWord [⟨0, 31, 1⟩, ⟨result.code, 8, 2⟩, ⟨n.val, 0, 5⟩]]
  | .profileRead n p => packWord [⟨1, 31, 1⟩, ⟨2, 8, 2⟩, ⟨n.val, 0, 5⟩] :: p.body
  | .fault f => packWord [⟨f.code, 0, 4⟩] :: f.details

/-- The length of a record in words, header included. -/
def Record.length (r : Record) : Nat := r.body.length + 1

/-- Every word of a record: the header with the kind in bits 31 to 24 and the length in bits 4 to 0, then the body. -/
def Record.words (r : Record) : List Word := packWord [⟨r.kind, 24, 8⟩, ⟨r.length, 0, 5⟩] :: r.body

/-! ## Item statuses (R70, R72, R73) -/

/-- The status of a record, a curve or a window. -/
inductive ItemStatus where
  | uncommitted | invalid | valid
deriving DecidableEq, Repr, Inhabited

/-- The status set at the last commit, from the valid field of the committed word 0. -/
def Item.status {n : Nat} (i : Item n) : ItemStatus :=
  match i.committed with
  | none => .uncommitted
  | some c => if validBit c.first then .valid else .invalid

/-- The committed copy of an item that is VALID, for a lane to latch. -/
def Item.usable {n : Nat} (i : Item n) : Option (Committed n) :=
  match i.committed with
  | none => none
  | some c => if validBit c.first then some c else none

/-! ## The ATTN line (R192) -/

/-- ATTN is asserted while ATTN enable is 1 and the committed head differs from the consumer index. -/
def attnLine (enabled : Bool) (r : ReportRing) : Bool := enabled && decide (r.head ≠ r.consumer)

end Sys2Proof.Machine
end

