-- ==== Sys2Proof/Machine/Ops.lean ====
section
/-! DEFINITION. The operations that the blocks share: bytes and words of the frame store, saturating counters, staging a
report record, requesting a division, and discarding the cut detector's reference. -/

namespace Sys2Proof.Machine

/-! ## The frame store -/

/-- What an address that the store does not list reads as (assumption 4, DESIGN CHOICE). -/
def unwrittenByte : Byte := 0

/-- The byte at an address. -/
def readByte : List Host.Cell → Nat → Byte
  | [], _ => unwrittenByte
  | (k, v) :: rest, a => if k = a then v else readByte rest a

/-- The store with one byte written, in canonical form. -/
def writeByte : List Host.Cell → Nat → Byte → List Host.Cell
  | [], a, v => if v = unwrittenByte then [] else [(a, v)]
  | (k, b) :: rest, a, v =>
      if a < k then
        if v = unwrittenByte then (k, b) :: rest else (a, v) :: (k, b) :: rest
      else if a = k then
        if v = unwrittenByte then rest else (a, v) :: rest
      else (k, b) :: writeByte rest a v

/-- The canonical form of the store: addresses strictly rising, and no byte that an unlisted address reads as. -/
abbrev Memory.wf (m : List Host.Cell) : Prop :=
  m.Pairwise (fun c d => c.1 < d.1) ∧ ∀ c ∈ m, c.2 ≠ unwrittenByte

/-- Byte lane `i` of a word: bits 8 × i + 7 to 8 × i (assumption 7). -/
def laneByte (w : Word) (i : Nat) : Byte := w.extractLsb' (8 * i) 8

/-- The word at a word-aligned byte address: lane `i` is the byte at offset `i` (assumption 7). -/
def readWord (m : List Host.Cell) (a : Nat) : Word :=
  readByte m (a + 3) ++ readByte m (a + 2) ++ readByte m (a + 1) ++ readByte m a

/-- One lane of a written word: memory keeps the byte of a disabled lane. -/
def writeLane (m : List Host.Cell) (a : Nat) (w : Word) (lanes : ByteLanes) (i : Nat) : List Host.Cell :=
  if lanes.getLsbD i then writeByte m (a + i) (laneByte w i) else m

/-- A word written with its lane enables. -/
def writeLanes (m : List Host.Cell) (a : Nat) (w : Word) (lanes : ByteLanes) : List Host.Cell :=
  writeLane (writeLane (writeLane (writeLane m a w lanes 0) a w lanes 1) a w lanes 2) a w lanes 3

/-- A full word written. -/
def writeWord (m : List Host.Cell) (a : Nat) (w : Word) : List Host.Cell := writeLanes m a w fullLanes

/-- Words written one after another at the addresses they are given with. -/
def writeCells (m : List Host.Cell) (cells : List (Nat × Word)) : List Host.Cell :=
  cells.foldl (fun m c => writeWord m c.1 c.2) m

/-- R1, R2: an address at or below byte address 0x3FFFFFF. -/
def inStore (a : Nat) : Bool := decide (a < Config.storeBytes)

/-! ## Addresses of the setup block (R2) -/

/-- The first byte of the setup block. -/
def setupBase (s : State) : Nat := s.setupSel.val * 0x800000

/-- The byte address of setup word `k` (R199). -/
def setupAddress (s : State) (k : Nat) : Nat := setupBase s + 4 * k

/-! ## Counters -/

/-- A counter that stays at `top` when a further increment would pass it (00_scope.md, Arithmetic). -/
def saturatingSucc (top n : Nat) : Nat := min (n + 1) top

/-! ## Staging a record (R186) -/

/-- The staging queue has room for a record. -/
def queueHasRoom (s : State) : Bool := decide (s.ring.queue.length < 8)

/-- A record joins the queue at its newest end, or is dropped when the queue holds 8, and the lost count rises. -/
def stage (r : Record) (s : State) : State :=
  if queueHasRoom s then s.withRing { s.ring with queue := s.ring.queue ++ [r] }
  else s.withRing { s.ring with lost := saturatingSucc 65535 s.ring.lost }

/-- A FAULT record is staged (R195). -/
def stageFault (f : FaultReport) (s : State) : State := stage (.fault f) s

/-- R192: the line is set afresh. -/
def reconsiderAttn (s : State) : State :=
  s.withRing { s.ring with attn := attnLine s.setup.attnEnable s.ring }

/-! ## Divider requests (R139) -/

/-- The pending slot of a client. -/
def Divider.slot (d : Divider) : Client → Option Request
  | .mix => d.mix
  | .recip => d.recip
  | .speed => d.speed

def Divider.setSlot (d : Divider) (c : Client) (r : Option Request) : Divider :=
  match c with
  | .mix => { d with mix := r }
  | .recip => { d with recip := r }
  | .speed => { d with speed := r }

/-- R139: a request begins at once when no division is in progress; otherwise it is placed in its client's slot,
where it replaces an earlier request. -/
def Divider.request (d : Divider) (c : Client) (dividend divisor : Nat) : Divider :=
  let r : Request := { dividend, divisor, stopped := false }
  match d.inProgress with
  | none => { d with inProgress := some { client := c, request := r } }
  | some _ => d.setSlot c (some r)

def requestDivision (c : Client) (dividend divisor : Nat) (s : State) : State :=
  s.withDivider (s.divider.request c dividend divisor)

/-! ## The cut detector's reference and lists -/

/-- R165: the reference becomes absent and everything else of the detector is kept. -/
def discardReference (s : State) : State := s.withDetector { s.detector with reference := none }

/-- R166: the reference and the last candidate frame become absent and the recent-cuts list empty. -/
def clearDetectorLists (s : State) : State :=
  s.withDetector { s.detector with reference := none, lastCandidate := none, recentCuts := [] }

/-! ## Cell geometry (R143, R149) -/

def cellWidth (u : Setup) : Nat := u.width / 24

def cellHeight (u : Setup) : Nat := u.height / 16

/-- The cell count of the geometry in use. -/
def cellCount (u : Setup) : Nat := cellWidth u * cellHeight u

end Sys2Proof.Machine
end

