-- ==== Sys2Proof/Machine/GradeList.lean ====
section
/-! DEFINITION. The Grade List Index (chapter The Grade List): what a slot commit does to the ordered list, the lookup at
frame open, and the start-frame query. -/

namespace Sys2Proof.Machine

/-- R51: the accepted start frames are 0 to 999,999. -/
def startInRange (start : Int) : Bool := decide (0 ≤ start) && decide (start ≤ 999999)

/-- R49: the ordered list without a slot's entry. -/
def removeSlot (slot : Fin 512) (l : List Entry) : List Entry := l.filter (fun e => decide (e.slot ≠ slot))

/-- R52: the entry that holds a start frame. -/
def holderOf (start : Int) (l : List Entry) : Option Entry := l.find? (fun e => decide (e.fields.start = start))

/-- R54: an entry inserted after every entry with a smaller start frame and before every entry with a greater one. -/
def insertEntry (e : Entry) : List Entry → List Entry
  | [] => [e]
  | x :: xs => if e.fields.start < x.fields.start then e :: x :: xs else x :: insertEntry e xs

/-- The GLI with a slot's status set. -/
def GradeList.mark (g : GradeList) (slot : Fin 512) (st : SlotStatus) : GradeList :=
  { g with status := g.status.set slot.val st }

/-- R54: a slot that is inserted becomes LISTED. -/
def GradeList.insert (g : GradeList) (slot : Fin 512) (f : SlotFields) : GradeList :=
  { g.mark slot .listed with ordered := insertEntry { slot := slot, fields := f } g.ordered }

/-- The GLI's handling of one slot commit (R47, R49 to R54): the slot is removed, then marked INVALID, CONFLICT or
inserted; `byReload` tells a commit of the reload engine (R53) from a captured one (R52). The second result is the FAULT
the commit raises, at most one (R56). -/
def GradeList.commit (g : GradeList) (byReload : Bool) (slot : Fin 512) (valid : Bool) (f : SlotFields) :
    GradeList × Option FaultReport :=
  let g := { g with ordered := removeSlot slot g.ordered }
  if valid then
    if startInRange f.start then
      match holderOf f.start g.ordered with
      | none => (g.insert slot f, none)
      | some h =>
          if byReload && decide (slot.val < h.slot.val) then
            let g := { g.mark h.slot .conflict with ordered := removeSlot h.slot g.ordered }
            (g.insert slot f, some (.dupStart h.slot slot))
          else (g.mark slot .conflict, some (.dupStart slot h.slot))
    else (g.mark slot .conflict, some (.startRange slot))
  else (g.mark slot .invalid, none)

/-- R61, R64: the covering entry of `f` in a list in start-frame order, with its predecessor; `best` is what the entries
already passed give. -/
def coveringFrom (f : Int) (best : Option (Entry × Option Entry)) : List Entry → Option (Entry × Option Entry)
  | [] => best
  | e :: rest =>
      if e.fields.start ≤ f then coveringFrom f (some (e, best.map (·.1))) rest else best

/-- R61: the covering entry of a frame number with its predecessor, or none (R62). -/
def covering (f : Int) (l : List Entry) : Option (Entry × Option Entry) := coveringFrom f none l

/-- R60 to R64: the lookup result of a frame number. -/
def lookup (f : Int) (l : List Entry) : Lookup :=
  match covering f l with
  | none => .noEntry
  | some (e, none) => .covered e (decide (e.fields.start = f))
  | some (e, some p) =>
      if 1 ≤ e.fields.dissolve ∧ f - e.fields.start < e.fields.dissolve then
        .dissolve e (decide (e.fields.start = f)) p ((f - e.fields.start).toNat + 1)
      else .covered e (decide (e.fields.start = f))

/-- R67: does an entry have exactly this start frame? -/
def startFrameQuery (f : Int) (l : List Entry) : Bool := l.any (fun e => decide (e.fields.start = f))

/-- The IN entry of a lookup result. -/
def Lookup.inEntry : Lookup → Option Entry
  | .noEntry => none
  | .covered e _ => some e
  | .dissolve e _ _ _ => some e

/-- The OUT entry of a lookup result. -/
def Lookup.outEntry : Lookup → Option Entry
  | .noEntry => none
  | .covered _ _ => none
  | .dissolve _ _ o _ => some o

/-- j, or 0 outside a dissolve (R201). -/
def Lookup.position : Lookup → Nat
  | .noEntry => 0
  | .covered _ _ => 0
  | .dissolve _ _ _ j => j

/-- The "at start" field (R60). -/
def Lookup.atStart : Lookup → Bool
  | .noEntry => false
  | .covered _ a => a
  | .dissolve _ a _ _ => a

end Sys2Proof.Machine
end

