-- ==== Sys2Proof/Machine/Tables.lean ====
section
/-! DEFINITION. The Table Capture Unit: staged words, commits and clears of the table shadows (R24, R47, R57, R70 to R75),
and what a lane latches from them (R78 to R80). -/

namespace Sys2Proof.Machine

/-! ## Items -/

/-- R24: word `offset` (1 or above) of an item's staged copy is replaced. -/
def Item.stageWord {n : Nat} (i : Item n) (offset : Nat) (w : Word) : Item n :=
  { i with staged := i.staged.setIfInBounds (offset - 1) w }

/-- R24: the staged words and the word 0 just written become the committed copy; the staged copy keeps its words. -/
def Item.commit {n : Nat} (i : Item n) (first : Word) : Item n :=
  { i with committed := some { first := first, rest := i.staged } }

/-! ## Captures (R24) -/

/-- A word 1 or above of an item is staged. -/
def stageTableWord (ref : ItemRef) (offset : Nat) (w : Word) (s : State) : State :=
  let t := s.tables
  s.withTables <|
    match ref with
    | .slot i => { t with slots := t.slots.set i.val (t.slots[i.val].stageWord offset w) }
    | .record i => { t with records := t.records.set i.val (t.records[i.val].stageWord offset w) }
    | .curve i => { t with curves := t.curves.set i.val (t.curves[i.val].stageWord offset w) }
    | .window i => { t with windows := t.windows.set i.val (t.windows[i.val].stageWord offset w) }

/-- R47: a slot is committed and the GLI handles the commit in the same event. -/
def commitSlot (byReload : Bool) (slot : Fin 512) (first : Word) (s : State) : State :=
  let item := s.tables.slots[slot.val].commit first
  let copy : Committed 3 := { first := first, rest := item.staged }
  let handled := s.gradeList.commit byReload slot (validBit first) copy.slotFields
  let s := (s.withTables { s.tables with slots := s.tables.slots.set slot.val item }).withGradeList handled.1
  match handled.2 with
  | none => s
  | some f => stageFault f s

/-- R24, R70, R72, R73: word 0 of an item commits it. -/
def commitItem (byReload : Bool) (ref : ItemRef) (first : Word) (s : State) : State :=
  let t := s.tables
  match ref with
  | .slot i => commitSlot byReload i first s
  | .record i => s.withTables { t with records := t.records.set i.val (t.records[i.val].commit first) }
  | .curve i => s.withTables { t with curves := t.curves.set i.val (t.curves[i.val].commit first) }
  | .window i => s.withTables { t with windows := t.windows.set i.val (t.windows[i.val].commit first) }

/-- R24: a captured write of a table word. -/
def captureTableWord (ref : ItemRef) (offset : Nat) (w : Word) (s : State) : State :=
  if offset = 0 then commitItem false ref w s else stageTableWord ref offset w s

/-! ## Clears (R12, R57, R75) -/

/-- A table's shadow is cleared; for the grade list the ordered list becomes empty and every slot UNCOMMITTED. -/
def clearTable (t : TableId) (s : State) : State :=
  match t with
  | .gradeList =>
      (s.withTables { s.tables with slots := Shadows.reset.slots }).withGradeList GradeList.reset
  | .records => s.withTables { s.tables with records := Shadows.reset.records }
  | .curves => s.withTables { s.tables with curves := Shadows.reset.curves }
  | .windows => s.withTables { s.tables with windows := Shadows.reset.windows }

/-- All four shadows are cleared. -/
def clearAllTables (s : State) : State :=
  clearTable .windows (clearTable .curves (clearTable .records (clearTable .gradeList s)))

/-! ## Lane latches -/

/-- R79: the curve a record names for one channel, and whether a named curve is missing. -/
def latchCurve (t : Shadows) (name : Option (Fin 16)) : Option Curve × Bool :=
  match name with
  | none => (none, false)
  | some c =>
      match t.curves[c.val].usable with
      | some k => (some k.knots, false)
      | none => (none, true)

/-- R78, R79: a record as a lane latches it, and whether the record or a curve it names is missing. -/
def latchRecord (t : Shadows) (r : Fin 256) : GradeValues × Bool :=
  match t.records[r.val].usable with
  | none => (GradeValues.identity, true)
  | some c =>
      let names := c.curveNames
      let kr := latchCurve t names.r
      let kg := latchCurve t names.g
      let kb := latchCurve t names.b
      ({ lift := c.lift, gain := c.gain, curve := ⟨kr.1, kg.1, kb.1⟩, saturation := c.saturation },
       kr.2 || kg.2 || kb.2)

/-- R80: the window and window record a lane latches, and whether one is missing. -/
def latchWindow (t : Shadows) (window : Option (Fin 16)) (grade : Option (Fin 256)) : Option WindowLatch × Bool :=
  match window, grade with
  | some w, some g =>
      match t.windows[w.val].usable with
      | some c =>
          let r := latchRecord t g
          (some { rect := c.rect, grade := r.1 }, r.2)
      | none => (none, true)
  | some _, none => (none, false)
  | none, _ => (none, false)

/-- R78 to R80: what a lane latches from the source it is given, and whether anything was missing (R81). -/
def latchLane (t : Shadows) (grade : Fin 256) (window : Option (Fin 16)) (windowGrade : Option (Fin 256)) :
    LaneLatch × Bool :=
  let main := latchRecord t grade
  let win := latchWindow t window windowGrade
  ({ main := main.1, window := win.1 }, main.2 || win.2)

/-- R74: the pixel at column `x` and row `y` is inside a rectangle. -/
def Rect.contains (r : Rect) (x y : Nat) : Bool :=
  decide (r.left ≤ x) && decide (x < r.left + r.width) && decide (r.top ≤ y) && decide (y < r.top + r.height)

/-- R82: the record a lane uses at a pixel. -/
def LaneLatch.gradeAt (l : LaneLatch) (x y : Nat) : GradeValues :=
  match l.window with
  | some w => if w.rect.contains x y then w.grade else l.main
  | none => l.main

end Sys2Proof.Machine
end

