-- ==== Sys2Proof/Machine/Pipeline.lean ====
section
/-! DEFINITION. The arithmetic of the grade pipeline (chapter The Grade Pipeline), exact and in integers. Every division is
by a positive constant and floors toward minus infinity (R110), as Lean's `/` on `Int` does for a positive divisor. -/

namespace Sys2Proof.Machine

/-- R110: floor((a + h) / 2^k) with h half of the divisor. -/
def roundDiv (a : Int) (divisor : Int) : Int := (a + divisor / 2) / divisor

/-- A channel bounded to 0 to 1,023. -/
def clampChannel (v : Int) : Int := clampInt 0 1023 v

/-- R112: stage 1 of one channel. -/
def profileChannel (invert : Bool) (base : BitVec 10) (scale : BitVec 12) (x : Int) : Int :=
  let x' := if invert then 1023 - x else x
  clampChannel (roundDiv ((x' - base.toNat) * scale.toNat) 1024)

/-- R112: stage 1. -/
def profileStage (v : ProfileValues) (x : Rgb Int) : Rgb Int :=
  ⟨profileChannel v.invert v.base.r v.scale.r x.r, profileChannel v.invert v.base.g v.scale.g x.g,
   profileChannel v.invert v.base.b v.scale.b x.b⟩

/-- R114: stage 2 of one channel. -/
def gainChannel (lift : Int) (gain : Nat) (p : Int) : Int := clampChannel (roundDiv ((p + lift) * gain) 1024)

/-- R114: stage 2. -/
def gainStage (g : GradeValues) (p : Rgb Int) : Rgb Int :=
  ⟨gainChannel g.lift.r g.gain.r p.r, gainChannel g.lift.g g.gain.g p.g, gainChannel g.lift.b g.gain.b p.b⟩

/-- Knot `i` of a curve, as an integer. -/
def knot (k : Curve) (i : Nat) : Int := ((k[i]?).getD 0 : Nat)

/-- R116: stage 3 of one channel; no curve passes the channel by. -/
def curveChannel (curve : Option Curve) (g : Int) : Int :=
  match curve with
  | none => g
  | some k =>
      let i := (g / 64).toNat
      let d := g - 64 * i
      knot k i + roundDiv ((knot k (i + 1) - knot k i) * d) 64

/-- R116: stage 3. -/
def curveStage (g : GradeValues) (v : Rgb Int) : Rgb Int :=
  ⟨curveChannel g.curve.r v.r, curveChannel g.curve.g v.g, curveChannel g.curve.b v.b⟩

/-- R118: the luma of three channels. -/
def luma (c : Rgb Int) : Int := roundDiv (306 * c.r + 601 * c.g + 117 * c.b) 1024

/-- R119: stage 4 of one channel. -/
def saturationChannel (saturation : Nat) (y c : Int) : Int :=
  clampChannel (y + roundDiv ((c - y) * saturation) 256)

/-- R118, R119: stage 4. -/
def saturationStage (g : GradeValues) (c : Rgb Int) : Rgb Int :=
  let y := luma c
  ⟨saturationChannel g.saturation y c.r, saturationChannel g.saturation y c.g, saturationChannel g.saturation y c.b⟩

/-- R109: stages 2 to 4 with one record. -/
def gradeStages (g : GradeValues) (p : Rgb Int) : Rgb Int := saturationStage g (curveStage g (gainStage g p))

/-- R121: stage 5 of one channel. -/
def mixChannel (m : Nat) (o n : Int) : Int := o + roundDiv ((n - o) * m) 256

/-- R121: stage 5. -/
def mixStage (m : Nat) (o n : Rgb Int) : Rgb Int := ⟨mixChannel m o.r n.r, mixChannel m o.g n.g, mixChannel m o.b n.b⟩

/-- R123: stage 6. -/
def legalClamp (f : FrameSetup) (v : Rgb Int) : Rgb Int :=
  if f.legalEnable then
    ⟨clampInt f.legalLo f.legalHi v.r, clampInt f.legalLo f.legalHi v.g, clampInt f.legalLo f.legalHi v.b⟩
  else v

/-- R104: the clamp raised a channel to lo. -/
def clippedLow (f : FrameSetup) (v : Rgb Int) : Bool :=
  f.legalEnable && (decide (v.r < f.legalLo) || decide (v.g < f.legalLo) || decide (v.b < f.legalLo))

/-- R104: the clamp lowered a channel to hi. -/
def clippedHigh (f : FrameSetup) (v : Rgb Int) : Bool :=
  f.legalEnable && (decide (f.legalHi < v.r) || decide (f.legalHi < v.g) || decide (f.legalHi < v.b))

/-- R103: bar `b` of the eight, with its on and off channels. -/
def barColour (onLevel offLevel : Int) (b : Nat) : Rgb Int :=
  match b with
  | 0 => ⟨onLevel, onLevel, onLevel⟩
  | 1 => ⟨onLevel, onLevel, offLevel⟩
  | 2 => ⟨offLevel, onLevel, onLevel⟩
  | 3 => ⟨offLevel, onLevel, offLevel⟩
  | 4 => ⟨onLevel, offLevel, onLevel⟩
  | 5 => ⟨onLevel, offLevel, offLevel⟩
  | 6 => ⟨offLevel, offLevel, onLevel⟩
  | _ => ⟨offLevel, offLevel, offLevel⟩

/-- R103: the value of the bar at column `x` of a frame `width` samples wide. -/
def barsValue (f : FrameSetup) (width x : Nat) : Rgb Int := barColour f.barLevel f.legalLo (x * 8 / width)

/-- R102: the fill colour. -/
def flatValue (f : FrameSetup) : Rgb Int := ⟨f.fill.r, f.fill.g, f.fill.b⟩

/-- The channels of a picture word as integers (R88). -/
def pixelOf (w : Word) : Rgb Int := ⟨(channels w).r, (channels w).g, (channels w).b⟩

/-- R82, R109: stages 2 to 4 of a lane at a pixel, on its stage-1 values. A lane that latched nothing grades no pixel;
its stage-1 values are passed on as the identity grade would. -/
def laneResult (l : Lane) (x y : Nat) (p : Rgb Int) : Rgb Int :=
  match l.latch with
  | some k => gradeStages (k.gradeAt x y) p
  | none => p

end Sys2Proof.Machine
end

