-- ==== Sys2Proof/Machine/Mix.lean ====
section
/-! DEFINITION. The Mix Stage (chapter Dissolves and the Divider, R128 to R136). -/

namespace Sys2Proof.Machine

/-- R129: the mix factor of position `j` for a step. -/
def mixFactor (j step : Nat) : Nat := (j * step + 128) / 256

/-- R130 to R132: the Mix Stage is prepared for a frame; the second result is the frame's MIX_LATE flag. A miss requests a
MIX division of 65,536 by N + 1. -/
def prepareMix (l : Lookup) (s : State) : State × Bool :=
  match l with
  | .dissolve e _ _ j =>
      let n := e.fields.dissolve
      let miss :=
        (requestDivision .mix 65536 (n + 1) (s.withMix { s.mix with waiting := some { length := n, j := j } }), true)
      match s.mix.cache with
      | some c =>
          if c.length = n then (s.withMix { s.mix with current := mixFactor j c.step, waiting := none }, false) else miss
      | none => miss
  | .covered _ _ => (s.withMix { s.mix with current := 256, waiting := none }, false)
  | .noEntry => (s.withMix { s.mix with current := 256, waiting := none }, false)

/-- R133: a MIX result fills the cache, and serves the waiting record when the N agrees. -/
def takeMixResult (divisor quotient : Nat) (s : State) : State :=
  let n := divisor - 1
  let m := { s.mix with cache := some { length := n, step := quotient } }
  match s.mix.waiting with
  | some w =>
      if w.length = n then s.withMix { m with current := mixFactor w.j quotient, waiting := none }
      else s.withMix m
  | none => s.withMix m

/-- R99, R128, R135: a frame close empties the waiting record and leaves m_cur and the cache. -/
def endMixWait (s : State) : State := s.withMix { s.mix with waiting := none }

end Sys2Proof.Machine
end

