-- ==== Sys2Proof/Machine/Detector.lean ====
section
/-! DEFINITION. The Cut Detector (chapter Cut Detection). -/

namespace Sys2Proof.Machine

/-- R149: the cell of a pixel, or none for a pixel of the remainder columns and rows. -/
def cellOf (u : Setup) (x y : Nat) : Option Nat :=
  if x < 24 * cellWidth u ∧ y < 16 * cellHeight u then
    some (y / cellHeight u * 24 + x / cellWidth u)
  else none

/-- R150: a word's stage-1 luma is added to its cell; the sum stays at 16,777,215. -/
def accumulate (x y : Nat) (p : Rgb Int) (s : State) : State :=
  match cellOf s.setup x y with
  | none => s
  | some c =>
      let sum := min ((s.detector.sums[c]?).getD 0 + (luma p).toNat) 16777215
      s.withDetector { s.detector with sums := s.detector.sums.setIfInBounds c sum }

/-- R151: every sum is set to 0 at a frame open. -/
def clearSums (s : State) : State := s.withDetector { s.detector with sums := Detector.reset.sums }

/-- R152: the mean of one cell. -/
def cellMean (recip sum : Nat) : Nat := min (sum * recip / 16777216) 1023

/-- R152: the 384 means. -/
def cellMeans (recip : Nat) (sums : Vector Nat 384) : Vector Nat 384 :=
  ⟨(sums.toList.map (cellMean recip)).toArray, by simp⟩

/-- R157: the number of cells whose mean differs from the reference's by more than the threshold. -/
def changedCells (threshold : Nat) (means reference : Vector Nat 384) : Nat :=
  (List.zip means.toList reference.toList).countP fun c => decide (threshold < max c.1 c.2 - min c.1 c.2)

/-- R154, R155: the speed condition. -/
def speedJudged (f : OpenFrame) : Bool :=
  decide (f.speed ≠ 0) && decide (f.setup.speedLo ≤ f.speed) && decide (f.speed ≤ f.setup.speedHi)

/-- R154, condition 7: the IN entry carries HOLD_SCD. -/
def heldFromJudging (f : OpenFrame) : Bool :=
  match f.lookup.inEntry with
  | some e => e.fields.holdScd
  | none => false

/-- R154, R156: the first condition that fails, or the reference the frame is judged against. -/
def judgement (f : OpenFrame) (complete : Bool) (d : Detector) : NotJudged ⊕ Reference :=
  if f.setup.scdEnable = false then .inl .off
  else if complete = false then .inl .incomplete
  else if f.substitution ≠ .none then .inl .subst
  else if d.recipValid = false then .inl .noRecip
  else if f.transport ≠ .running ∨ f.direction ≠ .forward then .inl .transport
  else if speedJudged f = false then .inl .speed
  else if heldFromJudging f then .inl .hold
  else
    match d.reference with
    | some r => if r.frame = f.number - 1 then .inr r else .inl .noRef
    | none => .inl .noRef

/-- R158, test 1: the frame lies within the hold-off of the last candidate frame. -/
def heldOff (f : OpenFrame) (d : Detector) : Bool :=
  match d.lastCandidate with
  | some l => decide (0 < f.number - l) && decide (f.number - l ≤ f.setup.holdoff)
  | none => false

/-- R158: the result of a judged frame. -/
def cutResult (f : OpenFrame) (changed : Nat) (d : Detector) : CutResult :=
  if changed < f.setup.frameThreshold then .noCut
  else if heldOff f d then .holdoff
  else if f.number ∈ d.recentCuts then .repeated
  else .cut

/-- R160: a frame number appended to the recent-cuts list, of at most 16 numbers. -/
def appendCut (f : Int) (l : List Int) : List Int := (if 16 ≤ l.length then l.drop 1 else l) ++ [f]

/-- R161: the CUT record of a frame. -/
def cutReportOf (f : OpenFrame) (changed : Nat) (s : State) : CutReport :=
  { frame := f.number
    changed := changed
    known := startFrameQuery f.number s.gradeList.ordered
    slot := f.lookup.inEntry.map (·.slot)
    speed := s.footage.speed.getD 0 }

/-- R159 to R162: a CUT result stages a CUT record and updates the last candidate frame and the list. -/
def reportCut (f : OpenFrame) (changed : Nat) (s : State) : State :=
  stage (.cut (cutReportOf f changed s))
    (s.withDetector
      { s.detector with lastCandidate := some f.number, recentCuts := appendCut f.number s.detector.recentCuts })

/-- R163: the frame becomes the reference. -/
def becomesReference (f : OpenFrame) (complete : Bool) (d : Detector) : Bool :=
  complete && decide (f.substitution = .none) && d.recipValid && decide (f.direction = .forward)

/-- R163: the reference replaced whole, when the frame is taken as reference. -/
def takeReference (f : OpenFrame) (complete : Bool) (means : Vector Nat 384) (s : State) : State :=
  if becomesReference f complete s.detector then
    s.withDetector { s.detector with reference := some { means := means, frame := f.number } }
  else s

/-- R153: the detector's work at a frame's close, with the frame's outcome (R164). -/
def judgeFrame (f : OpenFrame) (complete : Bool) (s : State) : State × DetectorOutcome :=
  let means := cellMeans (s.detector.recip.getD 0) s.detector.sums
  match judgement f complete s.detector with
  | .inl reason => (takeReference f complete means s, .notJudged reason)
  | .inr r =>
      let changed := changedCells f.setup.cellThreshold means r.means
      let result := cutResult f changed s.detector
      let s := if result = .cut then reportCut f changed s else s
      (takeReference f complete means s, .judged changed result)

/-- R11, R144: the RECIP-valid mark is cleared and RECIP is requested with the geometry in use. -/
def requestRecip (s : State) : State :=
  let count := cellCount s.setup
  requestDivision .recip (16777216 + count - 1) count
    (s.withDetector { s.detector with recipValid := false })

/-- R144: a RECIP result is taken when its divisor equals the cell count of the geometry in use. -/
def takeRecipResult (divisor quotient : Nat) (s : State) : State :=
  if divisor = cellCount s.setup then
    s.withDetector { s.detector with recip := some quotient, recipValid := true }
  else s

end Sys2Proof.Machine
end

