-- ==== Sys2Proof/Machine/Footage.lean ====
section
/-! DEFINITION. The Footage Counter (chapter Footage and Transport). -/

namespace Sys2Proof.Machine

/-- R29: the least and the greatest frame number. -/
def leastFrame : Int := -99999

def greatestFrame : Int := 999999

/-- A frame number bounded to its range (R31, R44). -/
def boundFrame (n : Int) : Int := clampInt leastFrame greatestFrame n

/-- R32: µs from one value of the 20-bit counter to a later one. -/
def microseconds (since now : BitVec 20) : Nat := (now - since).toNat

/-- µs since the last accepted edge, or none. -/
def sinceLastEdge (f : Footage) : Option Nat := f.lastEdge.map fun t => microseconds t f.clock

/-! ## TRANSPORT records (R36) -/

/-- A TRANSPORT record with the values after the event. -/
def stageTransport (causes : TransportCauses) (s : State) : State :=
  stage (.transport
    { causes := causes, transport := s.footage.transport, direction := s.footage.direction,
      number := s.footage.number, phase := s.footage.phase }) s

/-! ## The stop limit (R34) -/

/-- R39: a stop-limit expiry has occurred since each outstanding SPEED request. -/
def markStopped (d : Divider) : Divider :=
  { d with
    inProgress := d.inProgress.map fun v =>
      if v.client = .speed then { v with request := { v.request with stopped := true } } else v
    speed := d.speed.map fun r => { r with stopped := true } }

/-- R34: the stop limit has passed since the last accepted edge of a running transport. -/
def stopLimitDue (s : State) : Bool :=
  match s.footage.transport, sinceLastEdge s.footage with
  | .running, some t => decide (s.setup.stopLimit ≤ t)
  | .running, none => false
  | .stopped, _ => false

/-- R34: the stop limit expires. -/
def expireStopLimit (s : State) : State :=
  discardReference <|
    stageTransport { start := false, stop := true, reversal := false, limit := false } <|
      (s.withFootage { s.footage with transport := .stopped, interval := none, speed := none }).withDivider
        (markStopped s.divider)

/-- The expiry when it is due, and nothing otherwise. -/
def expireIfDue (s : State) : State := if stopLimitDue s then expireStopLimit s else s

/-! ## Perforation edges (R25 to R38) -/

/-- R25: an edge is accepted in STOPPED, and in RUNNING when perf guard µs have passed since the last accepted one. -/
def edgeAccepted (s : State) : Bool :=
  match s.footage.transport, sinceLastEdge s.footage with
  | .stopped, _ => true
  | .running, some t => decide (s.setup.perfGuard ≤ t)
  | .running, none => true

/-- R29: the edge is held at a limit of the frame number. -/
def edgeHeld (dir : Direction) (ppf : Nat) (f : Footage) : Bool :=
  match dir with
  | .forward => decide (f.number = greatestFrame) && decide (f.phase = ppf - 1)
  | .reverse => decide (f.number = leastFrame) && decide (f.phase = 0)

/-- R27, R28: the frame number and phase after an edge that is not held. -/
def countEdge (dir : Direction) (ppf : Nat) (f : Footage) : Int × Nat :=
  match dir with
  | .forward => if f.phase + 1 = ppf then (f.number + 1, 0) else (f.number, f.phase + 1)
  | .reverse => if f.phase = 0 then (f.number - 1, ppf - 1) else (f.number, f.phase - 1)

/-- R32: the interval of an accepted edge: invalid on a start and when two edges fall in one microsecond. -/
def edgeInterval (f : Footage) : Option Nat :=
  match f.transport, sinceLastEdge f with
  | .running, some t => if t = 0 then none else some t
  | .running, none => none
  | .stopped, _ => none

/-- The FTC after an accepted edge (R25, steps 1 to 3). -/
def footageAfterEdge (dir : Direction) (ppf : Nat) (f : Footage) : Footage :=
  let held := edgeHeld dir ppf f
  let counted := if held then (f.number, f.phase) else countEdge dir ppf f
  { f with
    number := counted.1
    phase := counted.2
    limit := held
    transport := .running
    direction := dir
    lastEdge := some f.clock
    interval := edgeInterval f }

/-- The causes of the TRANSPORT record of an accepted edge (R29, R33, R35, R36). -/
def edgeCauses (dir : Direction) (ppf : Nat) (f : Footage) : TransportCauses :=
  { start := decide (f.transport = .stopped)
    stop := false
    reversal := decide (dir ≠ f.direction)
    limit := edgeHeld dir ppf f && !f.limit }

/-- R38: SPEED is requested when an edge changed the frame number and its interval is valid. -/
def requestSpeed (before after : Footage) (s : State) : State :=
  match after.interval with
  | some t =>
      if after.number ≠ before.number then requestDivision .speed 100000000 (t * s.setup.ppf) s else s
  | none => s

/-- R25: what an accepted edge does. -/
def acceptEdge (dir : Direction) (s : State) : State :=
  let before := s.footage
  let after := footageAfterEdge dir s.setup.ppf before
  let causes := edgeCauses dir s.setup.ppf before
  let s := s.withFootage after
  let s := if causes.any then stageTransport causes s else s
  let s := if causes.start || causes.reversal then discardReference s else s
  requestSpeed before after s

/-- R26: an edge ignored by the guard. -/
def countGlitch (s : State) : State :=
  s.withFootage { s.footage with glitches := saturatingSucc 65535 s.footage.glitches }

/-- R25: a rising edge on PERF; ignored while RST is asserted. -/
def perforationEdge (dir : Direction) (s : State) : State :=
  if s.resetAsserted then s
  else if edgeAccepted s then acceptEdge dir s
  else countGlitch s

/-! ## Setup and commands -/

/-- R30: the perforation phase becomes 0 and the LIMIT indication is cleared. -/
def ppfChanged (s : State) : State := s.withFootage { s.footage with phase := 0, limit := false }

/-- R31: FRAME PRESET. -/
def presetFrame (n : Int) (s : State) : State :=
  clearDetectorLists (s.withFootage { s.footage with number := boundFrame n, phase := 0, limit := false })

/-- R39: a SPEED result is taken when the transport is RUNNING and no stop-limit expiry came since its request. -/
def takeSpeedResult (stopped : Bool) (quotient : Nat) (s : State) : State :=
  if s.footage.transport = .running ∧ stopped = false then
    s.withFootage { s.footage with speed := some (min quotient 65535) }
  else s

/-! ## CUE (R42, R43) -/

/-- R42: the CUE decision of a frame open. -/
def decideCue (l : Lookup) (t : TransportState) (d : Direction) (s : State) : State :=
  if l.atStart ∧ t = .running ∧ d = .forward ∧ 1 ≤ s.setup.cueWidth then
    s.withFootage { s.footage with cue := some { start := s.footage.clock, width := s.setup.cueWidth } }
  else s

/-- R43: the pulse's width has passed since its start. -/
def cueDue (f : Footage) : Bool :=
  match f.cue with
  | some c => decide (c.width ≤ microseconds c.start f.clock)
  | none => false

/-- R43: CUE returns low when its time is up. -/
def endCueIfDue (s : State) : State :=
  if cueDue s.footage then s.withFootage { s.footage with cue := none } else s

end Sys2Proof.Machine
end

