-- ==== Sys2Proof/Machine/Profiles.lean ====
section
/-! DEFINITION. The Profile Store (chapter Stock Profile Store): lane loads, programming and reading of profiles. -/

namespace Sys2Proof.Machine

/-- R172: the busy state PROGRAMMING. -/
def programmingBusy (p : ProfileStore) : Bool := p.operation.isSome

/-- R173: the held copy matches the number a frame needs. -/
def HeldProfile.matches (h : HeldProfile) (n : Fin 32) : Bool := decide (h.kind = .loaded) && decide (h.number = some n)

/-- The held copy of a lane after a load step, with the flags PROFILE_HELD and PROFILE_BAD it sets. -/
structure LoadResult where
  held : HeldProfile
  profileHeld : Bool
  profileBad : Bool
deriving DecidableEq, Repr, Inhabited

/-- R174: the load step of a lane that needs profile `n`. -/
def loadProfile (p : ProfileStore) (n : Fin 32) (h : HeldProfile) : LoadResult :=
  if h.matches n then { held := h, profileHeld := false, profileBad := false }
  else if programmingBusy p then { held := h, profileHeld := true, profileBad := false }
  else
    let stored := p.profiles[n.val]
    match stored.mark with
    | .incomplete =>
        { held := { number := some n, kind := .substitute, values := ProfileValues.identity }
          profileHeld := false, profileBad := true }
    | .complete =>
        { held := { number := some n, kind := .loaded, values := stored.values }
          profileHeld := false, profileBad := false }

/-- The PFS with one profile changed. -/
def ProfileStore.setProfile (p : ProfileStore) (n : Fin 32) (v : Profile) : ProfileStore :=
  { p with profiles := p.profiles.set n.val v }

/-! ## PROGRAM PROFILE (R177, R178) -/

/-- R177: the first condition that refuses a PROGRAM PROFILE command. -/
def programRefusal (s : State) : Option ProgramRefusal :=
  if s.setup.programEnable = false then some .notEnabled
  else if s.tracker.openFrame.isSome then some .frameOpen
  else if s.footage.transport = .running then some .running
  else if programmingBusy s.profiles then some .busy
  else none

/-- R178, step 4: a held copy of number `n` takes number none and keeps its values. -/
def HeldProfile.unnumber (h : HeldProfile) (n : Fin 32) : HeldProfile :=
  if h.number = some n then { h with number := none } else h

/-- R178: an accepted PROGRAM PROFILE command. -/
def acceptProgram (n : Fin 32) (s : State) : State :=
  let op : Programming :=
    { number := n, values := s.setup.staging, limit := s.setup.programLimit, acceptedAt := s.footage.clock,
      phase := .writing }
  let stored := s.profiles.profiles[n.val]
  let p := { s.profiles.setProfile n { stored with mark := .incomplete } with operation := some op }
  let l := s.lanes
  (s.withProfiles p).withLanes
    { incoming := { l.incoming with held := l.incoming.held.unnumber n }
      outgoing := { l.outgoing with held := l.outgoing.held.unnumber n } }

/-- R177, R178: a PROGRAM PROFILE command. -/
def programProfile (n : Fin 32) (s : State) : State :=
  match programRefusal s with
  | some reason => stageFault (.programRefused reason .program n) s
  | none => acceptProgram n s

/-- R182: a READ PROFILE command. -/
def readProfile (n : Fin 32) (s : State) : State :=
  if programmingBusy s.profiles then stageFault (.programRefused .busy .read n) s
  else stage (.profileRead n s.profiles.profiles[n.val]) s

/-! ## The operation (R179) -/

/-- R179: a write of cells completes: the cells that `took` marks hold the operation's values, and a verify starts. -/
def completeCellWrite (took : BitVec 67) (s : State) : State :=
  match s.profiles.operation with
  | some op =>
      match op.phase with
      | .writing =>
          let stored := s.profiles.profiles[op.number.val]
          let cells := mixCells (ProfileValues.ofCells took) op.values stored.values
          s.withProfiles
            { s.profiles.setProfile op.number { stored with values := cells } with
              operation := some { op with phase := .verifying } }
      | .verifying => s
  | none => s

/-- R179, R183: the operation ends, its profile as given, and a PROFILE record is staged. -/
def endOperation (n : Fin 32) (v : Profile) (result : ProgramResult) (s : State) : State :=
  stage (.profileProgrammed n result)
    (s.withProfiles { s.profiles.setProfile n v with operation := none })

/-- R179: a verify completes: it passes when the seven values agree; otherwise the values are written again. -/
def completeVerify (s : State) : State :=
  match s.profiles.operation with
  | some op =>
      match op.phase with
      | .verifying =>
          let stored := s.profiles.profiles[op.number.val]
          if stored.values = op.values then
            endOperation op.number { stored with mark := .complete } .verified s
          else s.withProfiles { s.profiles with operation := some { op with phase := .writing } }
      | .writing => s
  | none => s

/-- R179, R181: the cells of the profile whose operation is abandoned. A write under way leaves what it had reached,
which is a free value (assumption 5); a verify under way leaves the cells as they are. -/
def abandonedValues (drawn : Nat) (op : Programming) (old : ProfileValues) : ProfileValues :=
  match op.phase with
  | .writing => mixCells (ProfileValues.ofCells (Config.cellsReached drawn)) op.values old
  | .verifying => old

/-- R179: the program time limit has passed since acceptance. -/
def programDue (s : State) : Bool :=
  match s.profiles.operation with
  | some op => decide (op.limit ≤ microseconds op.acceptedAt s.footage.clock)
  | none => false

/-- R179: the operation ends TIMED_OUT when the time limit has passed, and nothing happens otherwise. -/
def timeOutIfDue (s : State) : State :=
  match s.profiles.operation with
  | some op =>
      if programDue s then
        let stored := s.profiles.profiles[op.number.val]
        endOperation op.number { stored with values := abandonedValues s.freeCount op stored.values } .timedOut
          (s.withFreeCount (s.freeCount + 1))
      else s
  | none => s

/-- R181: RST or loss of power ends the operation with no record; the profile keeps its INCOMPLETE mark. -/
def abandonProgramming (drawn : Nat) (p : ProfileStore) : ProfileStore :=
  match p.operation with
  | some op =>
      let stored := p.profiles[op.number.val]
      { p.setProfile op.number { stored with values := abandonedValues drawn op stored.values } with operation := none }
  | none => p

end Sys2Proof.Machine
end

