-- ==== Sys2Proof/Machine/Frames.lean ====
section
/-! DEFINITION. The Frame Tracker (chapter Frames in the Store): frame close, frame open, and what happens to an examined
picture word. -/

namespace Sys2Proof.Machine

/-! ## Closing a frame (R99) -/

/-- R107: the summary of a frame as it stands at staging. -/
def summaryOf (f : OpenFrame) (outcome : DetectorOutcome) (s : State) : FrameSummary :=
  { number := f.number
    buffer := f.buffer
    transport := f.transport
    direction := f.direction
    inSlot := f.lookup.inEntry.map (·.slot)
    outSlot := f.lookup.outEntry.map (·.slot)
    j := f.lookup.position
    m := s.mix.current
    wordsGraded := f.wordsGraded
    orphans := s.tracker.orphans
    clipLow := f.clipLow
    clipHigh := f.clipHigh
    flags := f.flags
    outcome := outcome
    speed := f.speed
    glitches := s.footage.glitches
    lost := s.ring.lost }

/-- R41, R108, R187: the three counts a kept summary carries become 0. -/
def clearReportedCounts (s : State) : State :=
  ((s.withTracker { s.tracker with orphans := 0 }).withFootage { s.footage with glitches := 0 }).withRing
    { s.ring with lost := 0 }

/-- R106, R108: a FRAME_SUMMARY is staged when SUMMARY enable was latched as 1; the counts are cleared if it is kept. -/
def stageSummary (f : OpenFrame) (outcome : DetectorOutcome) (s : State) : State :=
  if f.setup.summaryEnable then
    let staged := stage (.frameSummary (summaryOf f outcome s)) s
    if queueHasRoom s then clearReportedCounts staged else staged
  else s

/-- R99: the close of a frame, COMPLETE or TRUNCATED. -/
def closeOpenFrame (complete : Bool) (f : OpenFrame) (s : State) : State :=
  let f := if complete then f else { f with flags := { f.flags with truncated := true } }
  let judged := judgeFrame f complete s
  let s := stageSummary f judged.2 judged.1
  endMixWait (s.withTracker { s.tracker with openFrame := none })

/-- The open frame, if any, closes. -/
def closeFrame (complete : Bool) (s : State) : State :=
  match s.tracker.openFrame with
  | some f => closeOpenFrame complete f s
  | none => s

/-! ## Opening a frame (R93, R94) -/

/-- R101: the substitution of a frame. -/
def substitutionFor (mode : SubstitutionMode) (f : Int) : Substitution :=
  match mode with
  | .off => .none
  | .flat => .flat
  | .bars => .bars
  | .leader => if f < 0 then .flat else .none

/-- What steps 6 and 7 of an open leave: the lanes, and the flags they set. -/
structure LaneOpen where
  lanes : LanePair
  gradeMissing : Bool
  profileHeld : Bool
  profileBad : Bool
deriving DecidableEq, Repr, Inhabited

/-- R78, R174: the IN lane's latch and load. -/
def openIncoming (s : State) (l : Lookup) : (LaneLatch × Bool) × LoadResult :=
  match l.inEntry with
  | none =>
      (latchLane s.tables s.setup.defaultRecord none none,
       loadProfile s.profiles s.setup.defaultProfile s.lanes.incoming.held)
  | some e =>
      (latchLane s.tables e.fields.grade e.fields.window e.fields.windowGrade,
       loadProfile s.profiles e.fields.profile s.lanes.incoming.held)

/-- R78, R81, R94, R174: steps 6 and 7 of an open. Outside a dissolve the OUT lane latches nothing and keeps its held
copy. -/
def openLanes (s : State) (l : Lookup) : LaneOpen :=
  let i := openIncoming s l
  match l.outEntry with
  | none =>
      { lanes :=
          { incoming := { latch := some i.1.1, held := i.2.held }
            outgoing := { s.lanes.outgoing with latch := none } }
        gradeMissing := i.1.2
        profileHeld := i.2.profileHeld
        profileBad := i.2.profileBad }
  | some o =>
      let latch := latchLane s.tables o.fields.grade o.fields.window o.fields.windowGrade
      let load := loadProfile s.profiles o.fields.profile s.lanes.outgoing.held
      { lanes :=
          { incoming := { latch := some i.1.1, held := i.2.held }
            outgoing := { latch := some latch.1, held := load.held } }
        gradeMissing := i.1.2 || latch.2
        profileHeld := i.2.profileHeld || load.profileHeld
        profileBad := i.2.profileBad || load.profileBad }

/-- R93, step 2: the frame number of a frame that opens now. -/
def openingNumber (s : State) : Int := boundFrame (s.footage.number + s.setup.gateOffset)

/-- R90, R93, R94, R105: the context of a frame that opens now in buffer `b`, given its lookup result, what the lanes
found, and the MIX_LATE flag. -/
def openingContext (b : Fin 4) (l : Lookup) (o : LaneOpen) (late : Bool) (s : State) : OpenFrame :=
  let substitution := substitutionFor s.setup.frame.mode (openingNumber s)
  { buffer := b
    number := openingNumber s
    transport := s.footage.transport
    direction := s.footage.direction
    speed := s.footage.speed.getD 0
    lookup := l
    setup := s.setup.frame
    substitution := substitution
    wordsGraded := 0
    clipLow := 0
    clipHigh := 0
    flags :=
      { truncated := false
        mixLate := late
        profileHeld := o.profileHeld
        profileBad := o.profileBad
        gradeMissing := o.gradeMissing
        noEntry := decide (l = .noEntry)
        substituted := decide (substitution ≠ .none) } }

/-- R93, R94: steps 2 to 11 of an open in buffer `b`, with no frame open. -/
def openAfterClose (b : Fin 4) (s : State) : State :=
  let l := lookup (openingNumber s) s.gradeList.ordered
  let o := openLanes s l
  let mixed := prepareMix l s
  let context := openingContext b l o mixed.2 s
  let t := (mixed.1.withLanes o.lanes).withTracker { mixed.1.tracker with openFrame := some context }
  decideCue l s.footage.transport s.footage.direction (clearSums t)

/-- R92, R93: a frame opens in buffer `b`; an open frame first closes TRUNCATED. -/
def openFrame (b : Fin 4) (s : State) : State := openAfterClose b (closeFrame false s)

/-! ## Grading a picture word (R95) -/

/-- R95, step 2: the value of a word that is not substituted, before stage 6. -/
def gradedChannels (f : OpenFrame) (x y : Nat) (v : Rgb Int) (s : State) : Rgb Int :=
  let n := laneResult s.lanes.incoming x y (profileStage s.lanes.incoming.held.values v)
  match f.lookup.outEntry with
  | some _ =>
      mixStage s.mix.current (laneResult s.lanes.outgoing x y (profileStage s.lanes.outgoing.held.values v)) n
  | none => n

/-- R95, steps 2 and 3: the value of a word before stage 6. -/
def formedChannels (f : OpenFrame) (x y : Nat) (v : Rgb Int) (s : State) : Rgb Int :=
  match f.substitution with
  | .none => gradedChannels f x y v s
  | .flat => flatValue f.setup
  | .bars => barsValue f.setup s.setup.width x

/-- R95, R104: the context after a graded word whose value before stage 6 is `v`. -/
def countGraded (f : OpenFrame) (v : Rgb Int) : OpenFrame :=
  { f with
    wordsGraded := saturatingSucc 16777215 f.wordsGraded
    clipLow := if clippedLow f.setup v then saturatingSucc 16777215 f.clipLow else f.clipLow
    clipHigh := if clippedHigh f.setup v then saturatingSucc 16777215 f.clipHigh else f.clipHigh }

/-- R127, R150: the IN lane's stage-1 values go to the cut detector for a word that is not substituted. -/
def handToDetector (f : OpenFrame) (x y : Nat) (v : Rgb Int) (s : State) : State :=
  match f.substitution with
  | .none => accumulate x y (profileStage s.lanes.incoming.held.values v) s
  | .flat => s
  | .bars => s

/-- R89, R95: a picture word of the open frame `f`, at `offset` of its buffer and byte address `a`, is graded. -/
def gradeWord (f : OpenFrame) (a offset : Nat) (w : Word) (s : State) : State :=
  let x := offset % s.setup.width
  let y := offset / s.setup.width
  let v := formedChannels f x y (pixelOf w) s
  let t := handToDetector f x y (pixelOf w) s
  (t.withTracker { t.tracker with openFrame := some (countGraded f v) }).withStore
    (writeWord t.store a (gradedWord (legalClamp f.setup v)))

/-- R100: an orphan passes as written and is counted. -/
def passOrphan (a : Nat) (w : Word) (s : State) : State :=
  (s.withTracker { s.tracker with orphans := saturatingSucc 16777215 s.tracker.orphans }).withStore
    (writeWord s.store a w)

/-- R95: the word at `offset` of the open frame's buffer is graded. -/
def gradeInOpenFrame (a offset : Nat) (w : Word) (s : State) : State :=
  match s.tracker.openFrame with
  | some f => gradeWord f a offset w s
  | none => passOrphan a w s

/-- R97: the frame closes COMPLETE after the word at its last offset. -/
def closeAtLastOffset (offset : Nat) (s : State) : State :=
  if offset + 1 = s.setup.width * s.setup.height then closeFrame true s else s

/-- The buffer of the open frame. -/
def openBuffer (s : State) : Option (Fin 4) := s.tracker.openFrame.map (·.buffer)

/-- R92, R95, R97, R100: a picture word at `offset` of frame buffer `b` in ACTIVE. -/
def pictureWord (b : Fin 4) (a offset : Nat) (w : Word) (s : State) : State :=
  if offset = 0 then gradeInOpenFrame a 0 w (openFrame b s)
  else if openBuffer s = some b then closeAtLastOffset offset (gradeInOpenFrame a offset w s)
  else passOrphan a w s

end Sys2Proof.Machine
end

