-- ==== Sys2Proof/Machine/Ring.lean ====
section
/-! DEFINITION. The Report Writer (chapter Report Ring): pointers, selecting and writing records, the consumer index, and
the ring reset. Staging is in Ops.lean. -/

namespace Sys2Proof.Machine

/-! ## Pointers (R185) -/

/-- A pointer advanced by `k` words in a ring of `size` words. -/
def RingPointer.advance (p : RingPointer) (size k : Nat) : RingPointer :=
  if p.offset + k < size then { p with offset := p.offset + k }
  else { offset := p.offset + k - size, wrap := !p.wrap }

/-- The linear position of a pointer. -/
def RingPointer.position (p : RingPointer) (size : Nat) : Nat := p.offset + if p.wrap then size else 0

/-- The distance from pointer `a` to pointer `b`. -/
def ringDistance (size : Nat) (a b : RingPointer) : Nat :=
  (b.position size + 2 * size - a.position size) % (2 * size)

/-- The used words of the ring. -/
def usedWords (s : State) : Nat := ringDistance s.setup.ringSize s.ring.consumer s.ring.head

/-- The free words of the ring. -/
def freeWords (s : State) : Nat := s.setup.ringSize - usedWords s

/-! ## Report writes (R189) -/

/-- The words of the oldest staged record. -/
def oldestWords (s : State) : List Word :=
  match s.ring.queue with
  | r :: _ => r.words
  | [] => []

/-- Words to be written at ring offset `offset` and on, with their addresses; words past the store are left out (R184). -/
def ringCells (s : State) (offset : Nat) (ws : List Word) : List (Nat × Word) :=
  (ws.zipIdx.map fun w => (s.setup.ringBase + 4 * (offset + w.2), w.1)).filter fun c => inStore c.1

/-- How many words of a record stand before the top of the ring when it is written at the committed head. -/
def wordsToTop (s : State) : Nat := s.setup.ringSize - s.ring.head.offset

/-- The head that follows the oldest staged record. -/
def headAfterOldest (s : State) : RingPointer := s.ring.head.advance s.setup.ringSize (oldestWords s).length

/-- The addresses and words of a report write issued now. The head word carries the committed head advanced by the
record's length, or the committed head as it stands for a publication (R189, R193). -/
def reportCells (w : ReportWrite) (s : State) : List (Nat × Word) :=
  match w with
  | .recordWords => ringCells s s.ring.head.offset ((oldestWords s).take (wordsToTop s))
  | .recordWrapped => ringCells s 0 ((oldestWords s).drop (wordsToTop s))
  | .recordHead => [(setupAddress s 3, (headAfterOldest s).toWord)]
  | .publication => [(setupAddress s 3, s.ring.head.toWord)]

/-- R189: the report write after the first one of a record: the words from offset 0 if there are any, else the head word.
A write none of whose words lies in the store is passed over as written (R184). -/
def afterRecordWords (s : State) : ReportWrite :=
  if (reportCells .recordWrapped s).isEmpty then .recordHead else .recordWrapped

/-- R189: the first report write of a record. -/
def firstReportWrite (s : State) : ReportWrite :=
  if (reportCells .recordWords s).isEmpty then afterRecordWords s else .recordWords

def requestReport (w : ReportWrite) (s : State) : State := s.withPort { s.port with reportRequest := some w }

/-- A report write is in progress on the memory side. -/
def reportInProgress (p : MemoryPort) : Bool :=
  match p.inProgress with
  | some (.report _ _ _) => true
  | some (.reload _ _) => false
  | none => false

/-- R193: a pending publication's head-word write is requested when no report write is in progress. In UNSET nothing is
requested (R194). -/
def requestPublication (s : State) : State :=
  if s.ring.publication ∧ s.partState ≠ .unset ∧ reportInProgress s.port = false then requestReport .publication s
  else s

/-! ## Selecting a record (R188) -/

/-- R188: a record can be selected: outside UNSET, none in flight, no publication pending, and no report write requested
or in progress. -/
def mayLookAtOldest (s : State) : Bool :=
  decide (s.partState ≠ .unset) && !s.ring.inFlight && !s.ring.publication && s.port.reportRequest.isNone
    && !reportInProgress s.port

/-- R188: the oldest staged record becomes the record in flight when the free words are at least its length. -/
def selectRecord (s : State) : State :=
  match s.ring.queue with
  | [] => s
  | r :: _ =>
      if mayLookAtOldest s ∧ r.length ≤ freeWords s then
        requestReport (firstReportWrite s) (s.withRing { s.ring with inFlight := true })
      else s

/-! ## Completion of a report write (R189, R193) -/

/-- R189: the completion of the head-word write of a record. -/
def advanceHead (s : State) : State :=
  reconsiderAttn
    (s.withRing { s.ring with head := headAfterOldest s, queue := s.ring.queue.tail, inFlight := false })

/-- R189, R193: what follows the completion of a report write that was not withdrawn. -/
def afterReportWrite (w : ReportWrite) (s : State) : State :=
  match w with
  | .recordWords => requestReport (afterRecordWords s) s
  | .recordWrapped => requestReport .recordHead s
  | .recordHead => advanceHead s
  | .publication => s.withRing { s.ring with publication := false }

/-! ## The consumer index (R191) -/

/-- R191: a consumer index is accepted when its offset is below ring size and it lies in ring order from the held
consumer index to the committed head. -/
def consumerAccepted (p : RingPointer) (s : State) : Bool :=
  decide (p.offset < s.setup.ringSize)
    && decide (ringDistance s.setup.ringSize s.ring.consumer p ≤ usedWords s)

/-- R191: a captured consumer word. -/
def writeConsumer (w : Word) (s : State) : State :=
  if consumerAccepted (pointerOf w) s then
    reconsiderAttn (s.withRing { s.ring with consumer := pointerOf w })
  else stageFault (.consumerRange w s.ring.head) s

/-! ## Ring reset and UNSET (R193, R194) -/

/-- An own report write in progress that its record or publication no longer waits for. -/
def withdrawReport (everyWrite : Bool) (p : MemoryPort) : MemoryPort :=
  match p.inProgress with
  | some (.report w cells _) =>
      if everyWrite || decide (w ≠ .publication) then { p with inProgress := some (.report w cells true) } else p
  | some (.reload _ _) => p
  | none => p

/-- R13, R193: a ring reset. -/
def resetRing (s : State) : State :=
  let port := withdrawReport true s.port
  let request := if reportInProgress s.port then none else some ReportWrite.publication
  (s.withPort { port with reportRequest := request }).withRing
    { s.ring with
      head := ⟨0, false⟩
      consumer := ⟨0, false⟩
      inFlight := false
      publication := true
      attn := false }

/-- R194: the RPW on entry to UNSET. -/
def suspendReports (s : State) : State :=
  let port := withdrawReport false s.port
  (s.withPort { port with reportRequest := none }).withRing { s.ring with inFlight := false }

end Sys2Proof.Machine
end

