-- ==== Sys2Proof/Machine/Reload.lean ====
section
/-! DEFINITION. The reload engine (sections 1.4 and 11.2): which read is requested, what a completed read installs, and
when the part leaves LOADING. -/

namespace Sys2Proof.Machine

/-! ## Addresses and words of a read (R22) -/

/-- The byte address of word `offset` of an item, at the table's own base. -/
def itemAddress (u : Setup) (ref : ItemRef) (offset : Nat) : Nat :=
  u.tableBase.get ref.table + ref.table.stride * ref.index + 4 * offset

/-- The word offsets that a part of an item covers. -/
def partOffsets (ref : ItemRef) : ItemPart → List Nat
  | .rest => (List.range ref.table.restWords).map (· + 1)
  | .word0 => [0]

/-- R22: some word of the part lies in the store; otherwise the part is not issued. -/
def partInStore (u : Setup) (ref : ItemRef) (part : ItemPart) : Bool :=
  (partOffsets ref part).any fun o => inStore (itemAddress u ref o)

/-- R22: the word a reload read returns for word `offset` of an item; a word past the store is taken as 0. -/
def reloadWord (s : State) (ref : ItemRef) (offset : Nat) : Word :=
  let a := itemAddress s.setup ref offset
  if inStore a then readWord s.store a else 0

/-! ## Pending tables (R22) -/

/-- The first pending table in the order of R22, with its next item. -/
def firstPending (r : PerTable TableProgress) : Option ItemRef :=
  if r.gradeList.pending then some (itemAt .gradeList r.gradeList.next)
  else if r.records.pending then some (itemAt .records r.records.next)
  else if r.curves.pending then some (itemAt .curves r.curves.next)
  else if r.windows.pending then some (itemAt .windows r.windows.next)
  else none

/-- The table becomes pending from item 0. -/
def makePending (t : TableId) (s : State) : State :=
  s.withReload (s.reload.set t { pending := true, next := 0 })

def makeAllPending (s : State) : State :=
  makePending .windows (makePending .curves (makePending .records (makePending .gradeList s)))

/-- R19: every pending mark is dropped. What the next-item indexes become is not stated: the model sets each to 0
(assumption 28, DESIGN CHOICE). -/
def dropPending (s : State) : State :=
  s.withReload ⟨TableProgress.reset, TableProgress.reset, TableProgress.reset, TableProgress.reset⟩

/-- R22: the next-item index advances, and the pending mark is cleared after the last item. -/
def advanceTable (ref : ItemRef) (s : State) : State :=
  s.withReload (s.reload.set ref.table
    { pending := decide (ref.index + 1 < ref.table.count), next := ref.index + 1 })

/-! ## Installing a read (R22) -/

/-- The first read's words replace the item's staged words. -/
def installRest (ref : ItemRef) (s : State) : State :=
  (partOffsets ref .rest).foldl (fun t o => stageTableWord ref o (reloadWord s ref o) t) s

/-- A completed part is installed: the first read stages, the second commits and the next-item index advances. -/
def installPart (ref : ItemRef) (part : ItemPart) (s : State) : State :=
  match part with
  | .rest => installRest ref s
  | .word0 => advanceTable ref (commitItem true ref (reloadWord s ref 0) s)

/-! ## Requesting a read (R196) -/

/-- The read that follows a completed part: the second read of the same item, or the first read of the next item to be
served. -/
def followingRead (ref : ItemRef) (part : ItemPart) (s : State) : Option (ItemRef × ItemPart) :=
  match part with
  | .rest => some (ref, .word0)
  | .word0 => (firstPending s.reload).map fun r => (r, .rest)

/-- More parts than any reload has: 2 for each of the 800 items. -/
def reloadParts : Nat := 1601

/-- R22, R196: a part is requested. A part with no word in the store is not issued: it completes in this event with every
word 0, and the read that follows it is requested in its place. -/
def requestPart : Nat → ItemRef → ItemPart → State → State
  | 0, _, _, s => s
  | fuel + 1, ref, part, s =>
      if partInStore s.setup ref part then
        s.withPort { s.port with reloadRequest := some (.item ref part) }
      else
        let t := installPart ref part s
        match followingRead ref part t with
        | some (r, p) => requestPart fuel r p t
        | none => t

/-- R196: the first read of the first pending table's next item is requested, if a table is pending. -/
def requestFirstPending (s : State) : State :=
  match firstPending s.reload with
  | some ref => requestPart reloadParts ref .rest s
  | none => s

/-- A reload read is in progress on the memory side. -/
def reloadInProgress (p : MemoryPort) : Bool :=
  match p.inProgress with
  | some (.reload _ _) => true
  | some (.report _ _ _) => false
  | none => false

/-- The engine has a read requested or in progress (R196). -/
def reloadOutstanding (p : MemoryPort) : Bool := p.reloadRequest.isSome || reloadInProgress p

/-- R20: the part leaves LOADING when no table is pending and no reload read is requested or in progress. -/
def leaveLoading (s : State) : State :=
  if s.partState = .loading ∧ firstPending s.reload = none ∧ reloadOutstanding s.port = false then
    s.withPartState (if s.setup.enable then .active else .standby)
  else s

/-- A read is requested if the engine has none and a table is pending; the part leaves LOADING if nothing is left. -/
def resumeReload (s : State) : State :=
  leaveLoading (if reloadOutstanding s.port then s else requestFirstPending s)

/-! ## Clears during a reload (R12, R19, R22, R196) -/

/-- R196: a waiting request is withdrawn when its table is cleared, or when it is a first read and an earlier table is
pending. -/
def requestWithdrawn (cleared : List TableId) (s : State) : Bool :=
  match s.port.reloadRequest with
  | some (.item ref .rest) =>
      decide (ref.table ∈ cleared) || decide ((firstPending s.reload).map ItemRef.table ≠ some ref.table)
  | some (.item ref .word0) => decide (ref.table ∈ cleared)
  | some (.setup _) => false
  | none => false

/-- R12, R23: a read in progress of a cleared table completes with its words discarded. -/
def discardInProgress (cleared : List TableId) (p : MemoryPort) : MemoryPort :=
  match p.inProgress with
  | some (.reload (.item ref part) d) =>
      { p with inProgress := some (.reload (.item ref part) (d || decide (ref.table ∈ cleared))) }
  | some (.reload (.setup _) _) => p
  | some (.report _ _ _) => p
  | none => p

/-- R12, R22, R196: the reload engine after the tables `cleared` have become pending from item 0. -/
def restartReload (cleared : List TableId) (s : State) : State :=
  let port := discardInProgress cleared s.port
  let request := if requestWithdrawn cleared s then none else port.reloadRequest
  resumeReload (s.withPort { port with reloadRequest := request })

def allTables : List TableId := [.gradeList, .records, .curves, .windows]

/-- R19: the reload engine on entry to UNSET. -/
def abandonReload (s : State) : State :=
  let port := discardInProgress allTables s.port
  dropPending (s.withPort { port with reloadRequest := none })

/-- R12: a retarget of table `t`, whose base has already changed. An open frame closes first, while the part is ACTIVE
(R98). -/
def retarget (t : TableId) (s : State) : State :=
  restartReload [t] (makePending t (clearTable t ((closeFrame false s).withPartState .loading)))

/-- R22: RELOAD ALL. -/
def reloadAll (s : State) : State :=
  restartReload allTables (makeAllPending (clearAllTables ((closeFrame false s).withPartState .loading)))

/-! ## Completion of a table read (R22, R23, R196) -/

/-- The table read in progress completes: its part is installed unless its words are discarded, and the next read is
requested. The port is already free. -/
def completeTableRead (ref : ItemRef) (part : ItemPart) (discard : Bool) (s : State) : State :=
  if discard then resumeReload s
  else
    let t := installPart ref part s
    match followingRead ref part t with
    | some (r, p) => leaveLoading (requestPart reloadParts r p t)
    | none => leaveLoading t

end Sys2Proof.Machine
end

