-- ==== Sys2Proof/Machine/Setup.lean ====
section
/-! DEFINITION. Captured setup words and the part states (sections 1.2 and 1.3): what each field does when it is taken, the
commands of the command word, and leaving and entering UNSET. -/

namespace Sys2Proof.Machine

/-- R21: the setup read after RST is under way. -/
def setupReadOutstanding (p : MemoryPort) : Bool :=
  (match p.reloadRequest with
    | some (.setup _) => true
    | some (.item _ _) => false
    | none => false)
  || (match p.inProgress with
    | some (.reload (.setup _) _) => true
    | some (.reload (.item _ _) _) => false
    | some (.report _ _ _) => false
    | none => false)

/-! ## Effects of single words (R8, R9, R199) -/

/-- R11: a restart, whose new geometry or base is already in use (R98). -/
def restart (s : State) : State := requestRecip (discardReference (closeFrame false s))

/-- R20: a change of ENABLE, whose new value is already in use. -/
def enableChanged (s : State) : State :=
  match s.partState with
  | .standby => if s.setup.enable then s.withPartState .active else s
  | .active => if s.setup.enable then s else (closeFrame false s).withPartState .standby
  | .loading => s
  | .unset => s

/-- R192: a capture that changes ATTN enable sets the line afresh. -/
def attnEnableChanged (s : State) : State := reconsiderAttn s

/-- R9: a command code that names no command. -/
def refuseCommandCode (s : State) : State := stageFault (.setupRange (setupAddress s 1)) s

/-- R9: a captured command word issues its command once. -/
def issueCommand (w : Word) (s : State) : State :=
  match commandCodeOf w with
  | 0 => s
  | 1 => presetFrame (signedBits w 0 24) s
  | 2 => reloadAll s
  | 3 => programProfile (Fin.ofNat 32 (bits w 24 5)) s
  | 4 => readProfile (Fin.ofNat 32 (bits w 24 5)) s
  | _ => refuseCommandCode s

/-- R15: a captured legal word, taken whole or refused with a fault. -/
def takeLegalWord (w : Word) (s : State) : State :=
  if legalRefused w then stageFault (.setupRange (setupAddress s 18)) s
  else s.withSetup (takeFields .legal w s.setup)

/-- R8: the fields of one word are taken and act as their effect classes say. Restart, Retarget and Ring reset act when
the value in use changes (R11 to R13). -/
def takeWord (k : SetupWord) (w : Word) (s : State) : State :=
  let u := takeFields k w s.setup
  let t := s.withSetup u
  match k with
  | .control =>
      let t := if u.attnEnable ≠ s.setup.attnEnable then attnEnableChanged t else t
      if u.enable ≠ s.setup.enable then enableChanged t else t
  | .command => issueCommand w s
  | .consumer => writeConsumer w s
  | .head => s
  | .geometry => if u.width ≠ s.setup.width ∨ u.height ≠ s.setup.height then restart t else s
  | .bufferBase b => if u.bufferBase[b.val] ≠ s.setup.bufferBase[b.val] then restart t else s
  | .tableBase tb => if u.tableBase.get tb ≠ s.setup.tableBase.get tb then retarget tb t else s
  | .ringBase => if u.ringBase ≠ s.setup.ringBase then resetRing t else s
  | .ringSize => if u.ringSize ≠ s.setup.ringSize then resetRing t else s
  | .footage => if u.ppf ≠ s.setup.ppf then ppfChanged t else t
  | .stopLimit => expireIfDue t
  | .legal => takeLegalWord w s
  | .cueAndProgram | .substitution | .defaults | .scanEnables | .thresholds | .speedWindow => t
  | .stagingBase | .stagingScaleRG | .stagingScaleB => t
  | .noField => s

/-! ## Leaving and entering UNSET (R18, R19) -/

/-- The setup values in use after all fields of the shadow are taken, in word order (R18). -/
def takeShadow (shadow : Vector Word 64) (u : Setup) : Setup :=
  (List.finRange 64).foldl (fun u k => takeFields (setupWordAt k) shadow[k.val] u) u

/-- R15, R18: the legal word of the shadow is refused with a fault. -/
def checkShadowLegal (s : State) : State :=
  if legalRefused s.shadow[18] then stageFault (.setupRange (setupAddress s 18)) s else s

/-- R18: all setup values are taken from the shadow. The taking is at once a restart, a ring reset and a reload of all
four tables, and the part enters LOADING. -/
def takeSetup (s : State) : State :=
  let u := takeShadow s.shadow s.setup
  let t := s.withSetup u
  let t := if u.ppf ≠ s.setup.ppf then ppfChanged t else t
  let t := checkShadowLegal (expireIfDue t)
  let t := resetRing (restart t)
  resumeReload (makeAllPending (t.withPartState .loading))

/-- R19: a revision other than 1 puts the part in UNSET. -/
def enterUnset (s : State) : State :=
  suspendReports ((clearAllTables (abandonReload (closeFrame false s))).withPartState .unset)

/-! ## Captures (R8) -/

/-- R8, R18: in UNSET no field is taken; word 0 is examined unless the setup read is under way. -/
def captureInUnset (k : SetupWord) (w : Word) (s : State) : State :=
  if k = .control ∧ setupReadOutstanding s.port = false ∧ revisionOf w = 1 then takeSetup s else s

/-- R8, R19: outside UNSET a word 0 with a revision other than 1 puts the part in UNSET; otherwise the fields are taken. -/
def captureInUse (k : SetupWord) (w : Word) (s : State) : State :=
  if k = .control ∧ revisionOf w ≠ 1 then enterUnset s else takeWord k w s

/-- R4, R8: a full write of setup word `k`. The head word is not captured. -/
def captureSetup (k : Fin 64) (w : Word) (s : State) : State :=
  if setupWordAt k = .head then s
  else
    let t := s.withShadow (s.shadow.set k.val w)
    match s.partState with
    | .unset => captureInUnset (setupWordAt k) w t
    | .loading => captureInUse (setupWordAt k) w t
    | .standby => captureInUse (setupWordAt k) w t
    | .active => captureInUse (setupWordAt k) w t

/-! ## The setup read after RST (R21) -/

/-- The 16 words of a setup read are installed in the shadow. -/
def installSetupRead (quarter : Fin 4) (s : State) : State :=
  s.withShadow ((List.range 16).foldl
    (fun v i => v.setIfInBounds (16 * quarter.val + i) (readWord s.store (setupAddress s (16 * quarter.val + i))))
    s.shadow)

/-- R21: a setup read completes: the next is requested, and after the fourth the revision of word 0 is examined. The port
is already free. -/
def completeSetupRead (quarter : Fin 4) (s : State) : State :=
  let t := installSetupRead quarter s
  if h : quarter.val + 1 < 4 then
    t.withPort { t.port with reloadRequest := some (.setup ⟨quarter.val + 1, h⟩) }
  else if revisionOf t.shadow[0] = 1 then takeSetup t
  else t

end Sys2Proof.Machine
end

