-- ==== Sys2Proof/Machine/Traffic.lean ====
section
/-! DEFINITION. Transactions on the master side (section 1.1): the window a word belongs to, what happens to each word as it
is forwarded, and the transactions that wait for the memory port. -/

namespace Sys2Proof.Machine

/-! ## Windows (R2, R3) -/

/-- The window a word belongs to, with its place there. -/
inductive Place where
  | setup (word : Fin 64)
  | table (ref : ItemRef) (offset : Nat)
  | ring
  | buffer (b : Fin 4) (offset : Nat)
  | plain
deriving DecidableEq, Repr, Inhabited

/-- The word offset of address `a` in a window of `words` words at `base`, if it lies there. -/
def windowOffset (base words a : Nat) : Option Nat :=
  if base ≤ a ∧ (a - base) / 4 < words then some ((a - base) / 4) else none

/-- The setup word at an address. -/
def setupPlace (s : State) (a : Nat) : Option Place :=
  (windowOffset (setupBase s) 64 a).map fun o => .setup (Fin.ofNat 64 o)

/-- The words from a table's first item to the end of its last stride. -/
def tableWords (t : TableId) : Nat := t.count * t.stride / 4

/-- The item and word of a table at an address. Words 17 to 31 of a curve's stride are not part of the window. -/
def tablePlace (u : Setup) (t : TableId) (a : Nat) : Option Place :=
  match windowOffset (u.tableBase.get t) (tableWords t) a with
  | some o =>
      let perItem := t.stride / 4
      if o % perItem ≤ t.restWords then some (.table (itemAt t (o / perItem)) (o % perItem)) else none
  | none => none

/-- The report ring at an address. -/
def ringPlace (u : Setup) (a : Nat) : Option Place :=
  (windowOffset u.ringBase u.ringSize a).map fun _ => .ring

/-- The frame buffer word at an address. -/
def bufferPlace (u : Setup) (b : Fin 4) (a : Nat) : Option Place :=
  (windowOffset u.bufferBase[b.val] (u.width * u.height) a).map fun o => .buffer b o

/-- R3: the windows in their order; only the setup block is present in UNSET. -/
def windowsInOrder (s : State) (a : Nat) : List (Option Place) :=
  if s.partState = .unset then [setupPlace s a]
  else
    [setupPlace s a,
     tablePlace s.setup .gradeList a, tablePlace s.setup .records a, tablePlace s.setup .curves a,
     tablePlace s.setup .windows a,
     ringPlace s.setup a,
     bufferPlace s.setup 0 a, bufferPlace s.setup 1 a, bufferPlace s.setup 2 a, bufferPlace s.setup 3 a]

/-- R3: a word belongs to the first window that contains it; a word contained in none is plain. -/
def classify (s : State) (a : Nat) : Place := ((windowsInOrder s a).findSome? id).getD .plain

/-- R5: the windows in which a partial write raises a fault: the snooped windows, less the head word. -/
def Place.faultsPartial : Place → Bool
  | .setup word => decide (setupWordAt word ≠ .head)
  | .table _ _ => true
  | .ring => false
  | .buffer _ _ => false
  | .plain => false

/-! ## One written word (R4, R5) -/

/-- The word reaches memory as written, with its lane enables. -/
def passWord (a : Nat) (w : WriteWord) (s : State) : State := s.withStore (writeLanes s.store a w.data w.lanes)

/-- R5: a word with a byte lane disabled. -/
def forwardPartial (a : Nat) (w : WriteWord) (s : State) : State :=
  let t := passWord a w s
  if (classify s a).faultsPartial then stageFault (.partialSnoop a) t else t

/-- R88: the word is examined as a picture word. -/
def examinesPicture (m : Master) (w : Word) (s : State) : Bool :=
  decide (m = .scan) && decide (s.partState = .active) && isPicture w

/-- R4: a word with every byte lane enabled. -/
def forwardFull (m : Master) (a : Nat) (w : Word) (s : State) : State :=
  match classify s a with
  | .setup k => captureSetup k w (passWord a ⟨w, fullLanes⟩ s)
  | .table ref offset => captureTableWord ref offset w (passWord a ⟨w, fullLanes⟩ s)
  | .ring => passWord a ⟨w, fullLanes⟩ s
  | .buffer b offset =>
      if examinesPicture m w s then pictureWord b a offset w s else passWord a ⟨w, fullLanes⟩ s
  | .plain => passWord a ⟨w, fullLanes⟩ s

/-- R1, R4, R21: one written word is forwarded. A word past the store is dropped; while RST is asserted a word passes
and nothing is captured or graded. -/
def forwardWord (m : Master) (a : Nat) (w : WriteWord) (s : State) : State :=
  if inStore a then
    if s.resetAsserted then passWord a w s
    else if w.lanes = fullLanes then forwardFull m a w.data s
    else forwardPartial a w s
  else s

/-! ## Transactions (R1) -/

/-- The words of a write burst in address order. -/
def forwardWords (m : Master) : Nat → List WriteWord → State → State
  | _, [], s => s
  | a, w :: ws, s => forwardWords m (a + 4) ws (forwardWord m a w s)

/-- R1: the words that a read of `n` words returns: memory's own, and 0 past the store. -/
def readWords (store : List Host.Cell) (a n : Nat) : List Word :=
  (List.range n).map fun i => if inStore (a + 4 * i) then readWord store (a + 4 * i) else 0

/-- R1: a transaction is forwarded whole; a read's words are returned to its master. -/
def forwardTransaction (t : Transaction) (s : State) : State :=
  match t.body with
  | .write ws => forwardWords t.master t.address ws s
  | .read n => s.withReturned (s.returned ++ [{ master := t.master, words := readWords s.store t.address n }])

/-! ## The memory port (R6) -/

/-- R6: a transaction that arrives while an own access is in progress waits for it; otherwise it is forwarded. -/
def arrive (t : Transaction) (s : State) : State :=
  if s.port.inProgress.isSome then s.withPort { s.port with waiting := s.port.waiting ++ [t] }
  else forwardTransaction t s

/-- R6: when the port comes free the waiting transactions are issued first, in the order they arrived. -/
def forwardWaiting (s : State) : State :=
  s.port.waiting.foldl (fun s t => forwardTransaction t s) (s.withPort { s.port with waiting := [] })

/-- The own access in progress has ended. -/
def freePort (s : State) : State := s.withPort { s.port with inProgress := none }

/-- A transaction of one full word. -/
def wordWrite (m : Master) (a : Nat) (w : Word) : Transaction :=
  { master := m, address := a, body := .write [{ data := w, lanes := fullLanes }] }

/-- A full write of setup word `k` arrives. -/
def arriveSetupWord (m : Master) (k : Fin 64) (w : Word) (s : State) : State :=
  arrive (wordWrite m (setupAddress s k.val) w) s

/-- A full write of word `offset` of a table item arrives, at the table's own address. -/
def arriveTableWord (m : Master) (ref : ItemRef) (offset : Nat) (w : Word) (s : State) : State :=
  arrive (wordWrite m (itemAddress s.setup ref offset) w) s

/-! ## The arbiter (R6) -/

/-- R6: with the port free and no passed transaction waiting, a waiting reload read is issued, or else a waiting report
write. -/
def issueOwnAccess (s : State) : State :=
  if s.port.inProgress.isSome ∨ s.port.waiting ≠ [] then s
  else
    match s.port.reloadRequest, s.port.reportRequest with
    | some r, _ => s.withPort { s.port with reloadRequest := none, inProgress := some (.reload r false) }
    | none, some w =>
        s.withPort { s.port with reportRequest := none, inProgress := some (.report w (reportCells w s) false) }
    | none, none => s

end Sys2Proof.Machine
end

