-- ==== Sys2Proof/Machine/Reset.lean ====
section
/-! DEFINITION. RST and loss of power (R21, R91, R146, R169, R181, R194), and the events of the part's time base. -/

namespace Sys2Proof.Machine

/-- R21, R194: an own access in progress is abandoned. What an abandoned report write had written is a free value
(assumption 6): its first words, in address order. -/
def abandonAccess (s : State) : State :=
  match s.port.inProgress with
  | some (.report _ cells _) =>
      (s.withStore (writeCells s.store (cells.take (Config.wordsReached s.freeCount)))).withFreeCount (s.freeCount + 1)
  | some (.reload _ _) => s
  | none => s

/-- R181: RST or loss of power ends a programming operation. -/
def abandonOperation (s : State) : State :=
  match s.profiles.operation with
  | some _ => (s.withProfiles (abandonProgramming s.freeCount s.profiles)).withFreeCount (s.freeCount + 1)
  | none => s

/-- R21: every block at its reset values. The frame store, the profiles, what was returned to the masters and the
transactions that wait are no reset values; the strap pins are sampled at the release. -/
def resetBlocks (s : State) : State :=
  { State.held with
    setupSel := s.setupSel
    port := { MemoryPort.reset with waiting := s.port.waiting }
    profiles := s.profiles
    store := s.store
    returned := s.returned
    freeCount := s.freeCount
    pending := s.pending }

/-- R21: RST is asserted. The transactions that waited for the abandoned access pass unaltered. -/
def assertReset (s : State) : State := forwardWaiting (resetBlocks (abandonOperation (abandonAccess s)))

/-- R21, R196: RST is released; the straps are sampled and the first setup read is requested. -/
def releaseReset (setupSel : Fin 8) (s : State) : State :=
  if s.resetAsserted then
    { s with
      resetAsserted := false
      setupSel := setupSel
      port := { s.port with reloadRequest := some (.setup 0) } }
  else s

/-! ## The time base (R32, assumption 8) -/

/-- The time-outs that have come due and have not been taken are taken before the counter moves on. -/
def takeDueTimeouts (s : State) : State := timeOutIfDue (endCueIfDue (expireIfDue s))

/-- R32: one µs of the time base. While RST is asserted the counter stays at 0. -/
def tick (s : State) : State :=
  if s.resetAsserted then s
  else
    let t := takeDueTimeouts s
    t.withFootage { t.footage with clock := t.footage.clock + 1 }

end Sys2Proof.Machine
end

