-- ==== Sys2Proof/WellFormed.lean ====
section
/-! DEFINITION. Which terms of `Instr` are commands a sender can present. Most fields are typed to their exact range, so
that only the burst rules of R1, the disabled lane of R5 and the uncaptured head word of R4 are left to check. -/

namespace Sys2Proof

/-- The number of words of a transaction. -/
def TransferBody.length : TransferBody → Nat
  | .read n => n
  | .write ws => ws.length

/-- R1: a burst is 1 to 16 words, and its first word stands at a word-aligned byte address of the store. -/
def Transaction.wellFormed (t : Transaction) : Bool :=
  decide (1 ≤ t.body.length) && decide (t.body.length ≤ 16)
    && decide (t.address % 4 = 0) && decide (t.address < Config.storeBytes)

/-- A command that a sender can present. -/
def Instr.wellFormed : Instr → Bool
  | .passedTransaction t => t.wellFormed
  | .setupWrite _ word _ => decide (word.val ≠ 3)
  | .partialWrite _ _ _ lanes => decide (lanes ≠ fullLanes)
  | .rstAssert | .rstRelease _ | .powerLoss | .setupReadComplete => true
  | .layoutRevisionWrite _ _ | .enable _ _ | .attnEnable _ _ | .consumerIndexWrite _ _ => true
  | .restart _ _ _ | .retarget _ _ _ | .ringReset _ _ _ | .legalWordWrite _ _ | .ppfChange _ _ => true
  | .unnamedCommandCode _ _ _ | .framePreset _ _ | .reloadAll _ _ => true
  | .programProfile _ _ | .readProfile _ _ => true
  | .tableWordWrite _ _ _ | .slotCommit _ _ _ | .recordCommit _ _ _ => true
  | .curveCommit _ _ _ | .windowCommit _ _ _ => true
  | .reloadReadComplete | .ownAccessIssue | .pictureWord _ _ | .perfEdge _ => true
  | .stopLimitExpiry | .cuePulseEnd | .divisionComplete | .cellWriteComplete _ => true
  | .profileVerify | .programTimeout | .recordSelect | .reportWriteComplete => true

end Sys2Proof
end

