-- ==== Sys2Proof/Machine/BusCommands.lean ====
section
/-! DEFINITION. The meanings of the commands that masters present on the store bus. Each is the arrival of a transaction:
which window its words fall in, and what their fields do, is settled by the state at the forwarding (R1). -/

namespace Sys2Proof.Machine

/-- The outcome of a command. -/
abbrev Result := Host.Outcome State Fault Refusal

/-- PASSED_TRANSACTION (R1 to R6). -/
def execPassedTransaction (t : Transaction) (s : State) : Result :=
  if t.wellFormed then .next (arrive t s) else .fault .malformedTransaction

/-- SETUP_WRITE (R8). -/
def execSetupWrite (m : Master) (word : Fin 64) (data : Word) (s : State) : Result :=
  .next (arriveSetupWord m word data s)

/-- LAYOUT_REVISION_WRITE (R18, R19). -/
def execLayoutRevisionWrite (m : Master) (data : Word) (s : State) : Result := .next (arriveSetupWord m 0 data s)

/-- ENABLE (R20). -/
def execEnable (m : Master) (low : BitVec 24) (s : State) : Result := .next (arriveSetupWord m 0 (controlWord low) s)

/-- ATTN_ENABLE (R192). -/
def execAttnEnable (m : Master) (low : BitVec 24) (s : State) : Result :=
  .next (arriveSetupWord m 0 (controlWord low) s)

/-- CONSUMER_INDEX_WRITE (R191). -/
def execConsumerIndexWrite (m : Master) (data : Word) (s : State) : Result := .next (arriveSetupWord m 2 data s)

/-- RESTART (R11). -/
def execRestart (m : Master) (word : RestartWord) (data : Word) (s : State) : Result :=
  .next (arriveSetupWord m (restartOffset word) data s)

/-- RETARGET (R12). -/
def execRetarget (m : Master) (table : TableId) (data : Word) (s : State) : Result :=
  .next (arriveSetupWord m (retargetOffset table) data s)

/-- RING_RESET (R13, R193). -/
def execRingReset (m : Master) (word : RingWord) (data : Word) (s : State) : Result :=
  .next (arriveSetupWord m (ringWordOffset word) data s)

/-- LEGAL_WORD_WRITE (R15). -/
def execLegalWordWrite (m : Master) (data : Word) (s : State) : Result := .next (arriveSetupWord m 18 data s)

/-- PPF_CHANGE (R30). -/
def execPpfChange (m : Master) (data : Word) (s : State) : Result := .next (arriveSetupWord m 15 data s)

/-- UNNAMED_COMMAND_CODE (R9). -/
def execUnnamedCommandCode (m : Master) (code : UnnamedCode) (args : CommandArgs) (s : State) : Result :=
  .next (arriveSetupWord m 1 (commandWord code.toBits args) s)

/-- FRAME_PRESET (R31). -/
def execFramePreset (m : Master) (args : CommandArgs) (s : State) : Result :=
  .next (arriveSetupWord m 1 (commandWord 1 args) s)

/-- RELOAD_ALL (R22). -/
def execReloadAll (m : Master) (args : CommandArgs) (s : State) : Result :=
  .next (arriveSetupWord m 1 (commandWord 2 args) s)

/-- PROGRAM_PROFILE (R177, R178). -/
def execProgramProfile (m : Master) (args : CommandArgs) (s : State) : Result :=
  .next (arriveSetupWord m 1 (commandWord 3 args) s)

/-- READ_PROFILE (R182). -/
def execReadProfile (m : Master) (args : CommandArgs) (s : State) : Result :=
  .next (arriveSetupWord m 1 (commandWord 4 args) s)

/-- TABLE_WORD_WRITE (R24). -/
def execTableWordWrite (m : Master) (item : TableWord) (data : Word) (s : State) : Result :=
  .next (arriveTableWord m item.ref item.offset data s)

/-- PARTIAL_WRITE (R5, R86). -/
def execPartialWrite (m : Master) (wordAddress : BitVec 24) (data : Word) (lanes : ByteLanes) (s : State) : Result :=
  .next (arrive { master := m, address := 4 * wordAddress.toNat, body := .write [{ data := data, lanes := lanes }] } s)

/-- SLOT_COMMIT (R47). -/
def execSlotCommit (m : Master) (slot : Fin 512) (data : Word) (s : State) : Result :=
  .next (arriveTableWord m (.slot slot) 0 data s)

/-- RECORD_COMMIT (R70). -/
def execRecordCommit (m : Master) (record : Fin 256) (data : Word) (s : State) : Result :=
  .next (arriveTableWord m (.record record) 0 data s)

/-- CURVE_COMMIT (R72). -/
def execCurveCommit (m : Master) (curve : Fin 16) (data : Word) (s : State) : Result :=
  .next (arriveTableWord m (.curve curve) 0 data s)

/-- WINDOW_COMMIT (R73). -/
def execWindowCommit (m : Master) (window : Fin 16) (data : Word) (s : State) : Result :=
  .next (arriveTableWord m (.window window) 0 data s)

/-- PICTURE_WORD (R88 to R100). -/
def execPictureWord (wordAddress : BitVec 24) (pixel : Rgb (BitVec 10)) (s : State) : Result :=
  .next (arrive (wordWrite .scan (4 * wordAddress.toNat) (pictureWordOf pixel)) s)

end Sys2Proof.Machine
end

