-- ==== Sys2Proof/Machine/EventCommands.lean ====
section
/-! DEFINITION. The meanings of the commands that are events on the part's lines, completions inside the part, and time-outs.
An event whose occasion is absent changes nothing (assumption 9). -/

namespace Sys2Proof.Machine

/-! ## Lines -/

/-- RST_ASSERT (R21). -/
def execRstAssert (s : State) : Result := .next (assertReset s)

/-- RST_RELEASE (R21). -/
def execRstRelease (setupSel : Fin 8) (s : State) : Result := .next (releaseReset setupSel s)

/-- POWER_LOSS (R181): the part starts from RST. -/
def execPowerLoss (s : State) : Result := .next (assertReset s)

/-- PERF_EDGE (R25). -/
def execPerfEdge (dir : Direction) (s : State) : Result := .next (perforationEdge dir s)

/-! ## Time-outs -/

/-- STOP_LIMIT_EXPIRY (R34). -/
def execStopLimitExpiry (s : State) : Result := .next (expireIfDue s)

/-- CUE_PULSE_END (R43). -/
def execCuePulseEnd (s : State) : Result := .next (endCueIfDue s)

/-- PROGRAM_TIMEOUT (R179). -/
def execProgramTimeout (s : State) : Result := .next (timeOutIfDue s)

/-! ## The memory port -/

/-- SETUP_READ_COMPLETE (R21). -/
def setupReadCompletes (s : State) : State :=
  match s.port.inProgress with
  | some (.reload (.setup quarter) _) => forwardWaiting (completeSetupRead quarter (freePort s))
  | some (.reload (.item _ _) _) => s
  | some (.report _ _ _) => s
  | none => s

/-- SETUP_READ_COMPLETE (R21). -/
def execSetupReadComplete (s : State) : Result := .next (setupReadCompletes s)

/-- RELOAD_READ_COMPLETE (R22, R23, R196). -/
def reloadReadCompletes (s : State) : State :=
  match s.port.inProgress with
  | some (.reload (.item ref part) discard) => forwardWaiting (completeTableRead ref part discard (freePort s))
  | some (.reload (.setup _) _) => s
  | some (.report _ _ _) => s
  | none => s

/-- RELOAD_READ_COMPLETE (R22, R23, R196). -/
def execReloadReadComplete (s : State) : Result := .next (reloadReadCompletes s)

/-- OWN_ACCESS_ISSUE (R6). -/
def execOwnAccessIssue (s : State) : Result := .next (issueOwnAccess s)

/-- RECORD_SELECT (R188). -/
def execRecordSelect (s : State) : Result := .next (selectRecord s)

/-- R189, R193: a report write's words are in memory and it completes. -/
def reportWriteDone (w : ReportWrite) (cells : List (Nat × Word)) (withdrawn : Bool) (s : State) : State :=
  let t := s.withStore (writeCells s.store cells)
  if withdrawn then requestPublication t else afterReportWrite w t

/-- REPORT_WRITE_COMPLETE (R189, R193, R194). -/
def reportWriteCompletes (s : State) : State :=
  match s.port.inProgress with
  | some (.report w cells withdrawn) => forwardWaiting (reportWriteDone w cells withdrawn (freePort s))
  | some (.reload _ _) => s
  | none => s

/-- REPORT_WRITE_COMPLETE (R189, R193, R194). -/
def execReportWriteComplete (s : State) : Result := .next (reportWriteCompletes s)

/-! ## The divider -/

/-- R140: the division that begins when one completes, in the order MIX, RECIP, SPEED. -/
def Divider.beginNext (d : Divider) : Divider :=
  match d.mix, d.recip, d.speed with
  | some r, _, _ => { d with inProgress := some { client := .mix, request := r }, mix := none }
  | none, some r, _ => { d with inProgress := some { client := .recip, request := r }, recip := none }
  | none, none, some r => { d with inProgress := some { client := .speed, request := r }, speed := none }
  | none, none, none => { d with inProgress := none }

/-- R141: the quotient is handed to the client that requested it. -/
def handQuotient (v : Division) (s : State) : State :=
  let quotient := v.request.dividend / v.request.divisor
  match v.client with
  | .mix => takeMixResult v.request.divisor quotient s
  | .recip => takeRecipResult v.request.divisor quotient s
  | .speed => takeSpeedResult v.request.stopped quotient s

/-- R140: the division in progress completes. -/
def divisionCompletes (s : State) : State :=
  match s.divider.inProgress with
  | some v => handQuotient v (s.withDivider s.divider.beginNext)
  | none => s

/-- DIVISION_COMPLETE (R140). -/
def execDivisionComplete (s : State) : Result := .next (divisionCompletes s)

/-! ## The profile store -/

/-- CELL_WRITE_COMPLETE (R179). -/
def execCellWriteComplete (took : BitVec 67) (s : State) : Result := .next (completeCellWrite took s)

/-- PROFILE_VERIFY (R179). -/
def execProfileVerify (s : State) : Result := .next (completeVerify s)

end Sys2Proof.Machine
end

