-- ==== Sys2Proof/Machine/Dispatch.lean ====
section
/-! DEFINITION. One arm for each command; each arm is one call of the command's meaning. -/

namespace Sys2Proof.Machine

def exec (i : Instr) (s : State) : Host.Outcome State Fault Refusal :=
  match i with
  | .rstAssert => Sys2Proof.Machine.execRstAssert s
  | .rstRelease setupSel => Sys2Proof.Machine.execRstRelease setupSel s
  | .powerLoss => Sys2Proof.Machine.execPowerLoss s
  | .setupReadComplete => Sys2Proof.Machine.execSetupReadComplete s
  | .passedTransaction t => Sys2Proof.Machine.execPassedTransaction t s
  | .setupWrite m word data => Sys2Proof.Machine.execSetupWrite m word data s
  | .layoutRevisionWrite m data => Sys2Proof.Machine.execLayoutRevisionWrite m data s
  | .enable m low => Sys2Proof.Machine.execEnable m low s
  | .attnEnable m low => Sys2Proof.Machine.execAttnEnable m low s
  | .consumerIndexWrite m data => Sys2Proof.Machine.execConsumerIndexWrite m data s
  | .restart m word data => Sys2Proof.Machine.execRestart m word data s
  | .retarget m table data => Sys2Proof.Machine.execRetarget m table data s
  | .ringReset m word data => Sys2Proof.Machine.execRingReset m word data s
  | .legalWordWrite m data => Sys2Proof.Machine.execLegalWordWrite m data s
  | .ppfChange m data => Sys2Proof.Machine.execPpfChange m data s
  | .unnamedCommandCode m code args => Sys2Proof.Machine.execUnnamedCommandCode m code args s
  | .framePreset m args => Sys2Proof.Machine.execFramePreset m args s
  | .reloadAll m args => Sys2Proof.Machine.execReloadAll m args s
  | .programProfile m args => Sys2Proof.Machine.execProgramProfile m args s
  | .readProfile m args => Sys2Proof.Machine.execReadProfile m args s
  | .tableWordWrite m item data => Sys2Proof.Machine.execTableWordWrite m item data s
  | .partialWrite m wordAddress data lanes => Sys2Proof.Machine.execPartialWrite m wordAddress data lanes s
  | .slotCommit m slot data => Sys2Proof.Machine.execSlotCommit m slot data s
  | .recordCommit m record data => Sys2Proof.Machine.execRecordCommit m record data s
  | .curveCommit m curve data => Sys2Proof.Machine.execCurveCommit m curve data s
  | .windowCommit m window data => Sys2Proof.Machine.execWindowCommit m window data s
  | .reloadReadComplete => Sys2Proof.Machine.execReloadReadComplete s
  | .ownAccessIssue => Sys2Proof.Machine.execOwnAccessIssue s
  | .pictureWord wordAddress pixel => Sys2Proof.Machine.execPictureWord wordAddress pixel s
  | .perfEdge dir => Sys2Proof.Machine.execPerfEdge dir s
  | .stopLimitExpiry => Sys2Proof.Machine.execStopLimitExpiry s
  | .cuePulseEnd => Sys2Proof.Machine.execCuePulseEnd s
  | .divisionComplete => Sys2Proof.Machine.execDivisionComplete s
  | .cellWriteComplete took => Sys2Proof.Machine.execCellWriteComplete took s
  | .profileVerify => Sys2Proof.Machine.execProfileVerify s
  | .programTimeout => Sys2Proof.Machine.execProgramTimeout s
  | .recordSelect => Sys2Proof.Machine.execRecordSelect s
  | .reportWriteComplete => Sys2Proof.Machine.execReportWriteComplete s

end Sys2Proof.Machine
end

