-- ==== Sys2Proof/Safety.lean ====
section
/-! DEFINITION. What a sound state of the part is, in the terms the statements use: the invariants that the spec's prose states
of the whole part, and the conditions under which a command of the store bus is forwarded at once. -/

namespace Sys2Proof.Machine

/-! ## When a command is forwarded at once -/

/-- RST is released and no own access is in progress on the memory side, so that a transaction is forwarded as it
arrives (R6, R21). -/
def PortOpen (s : State) : Prop := s.resetAsserted = false ∧ s.port.inProgress = none

/-- The part is in a state in which setup fields are taken: LOADING, STANDBY or ACTIVE (R17). -/
def SetupTaken (s : State) : Prop := s.partState ≠ .unset

/-- Neither a time-out of the transport, of the CUE pulse nor of a programming operation is due (R34, R43, R179). -/
def NothingDue (s : State) : Prop :=
  stopLimitDue s = false ∧ cueDue s.footage = false ∧ programDue s = false

/-- What memory holds after the words of a burst pass: each word in the store is written with its lanes, each word past
it is dropped (R1, R2). -/
def passedStore : List Host.Cell → Nat → List WriteWord → List Host.Cell
  | m, _, [] => m
  | m, a, w :: ws => passedStore (if inStore a then writeLanes m a w.data w.lanes else m) (a + 4) ws

/-- R4: a written word that passes: it lies past the store, or in a window where it is neither captured, nor graded, nor
refused with a fault. -/
def PassesUnseen (m : Master) (a : Nat) (w : WriteWord) (s : State) : Prop :=
  inStore a = false ∨ classify s a = .plain ∨ classify s a = .ring ∨ classify s a = .setup 3
    ∨ ∃ b o, classify s a = .buffer b o ∧
        (m ≠ .scan ∨ s.partState ≠ .active ∨ w.lanes ≠ fullLanes ∨ isPicture w.data = false)

/-- Every word of a burst passes. -/
def BurstPasses (m : Master) : Nat → List WriteWord → State → Prop
  | _, [], _ => True
  | a, w :: ws, s => PassesUnseen m a w s ∧ BurstPasses m (a + 4) ws s

/-! ## What a captured or passed word leaves -/

/-- The part after a full word `w` has reached memory at address `a` (R4). -/
def writtenAt (a : Nat) (w : Word) (s : State) : State := s.withStore (writeWord s.store a w)

/-- The part after a full write of setup word `k` has reached memory and the setup shadow (R4, R8). -/
def capturedAt (k : Fin 64) (w : Word) (s : State) : State :=
  (writtenAt (setupAddress s k.val) w s).withShadow (s.shadow.set k.val w)

/-- A full write of word `offset` of the table item `ref` arrives at an address of the store that belongs to it (R3). -/
def ReachesItem (ref : ItemRef) (offset : Nat) (s : State) : Prop :=
  inStore (itemAddress s.setup ref offset) = true
    ∧ classify s (itemAddress s.setup ref offset) = .table ref offset

/-- The transaction that a command of the store bus presents, in a given state; none for the other commands. -/
def busTransaction (s : State) : Instr → Option Transaction
  | .passedTransaction t => some t
  | .setupWrite m k w => some (wordWrite m (setupAddress s k.val) w)
  | .layoutRevisionWrite m w => some (wordWrite m (setupAddress s 0) w)
  | .enable m low => some (wordWrite m (setupAddress s 0) (controlWord low))
  | .attnEnable m low => some (wordWrite m (setupAddress s 0) (controlWord low))
  | .consumerIndexWrite m w => some (wordWrite m (setupAddress s 2) w)
  | .restart m k w => some (wordWrite m (setupAddress s (restartOffset k).val) w)
  | .retarget m t w => some (wordWrite m (setupAddress s (retargetOffset t).val) w)
  | .ringReset m k w => some (wordWrite m (setupAddress s (ringWordOffset k).val) w)
  | .legalWordWrite m w => some (wordWrite m (setupAddress s 18) w)
  | .ppfChange m w => some (wordWrite m (setupAddress s 15) w)
  | .unnamedCommandCode m c args => some (wordWrite m (setupAddress s 1) (commandWord c.toBits args))
  | .framePreset m args => some (wordWrite m (setupAddress s 1) (commandWord 1 args))
  | .reloadAll m args => some (wordWrite m (setupAddress s 1) (commandWord 2 args))
  | .programProfile m args => some (wordWrite m (setupAddress s 1) (commandWord 3 args))
  | .readProfile m args => some (wordWrite m (setupAddress s 1) (commandWord 4 args))
  | .tableWordWrite m i w => some (wordWrite m (itemAddress s.setup i.ref i.offset) w)
  | .partialWrite m a w lanes => some { master := m, address := 4 * a.toNat, body := .write [{ data := w, lanes := lanes }] }
  | .slotCommit m i w => some (wordWrite m (itemAddress s.setup (.slot i) 0) w)
  | .recordCommit m i w => some (wordWrite m (itemAddress s.setup (.record i) 0) w)
  | .curveCommit m i w => some (wordWrite m (itemAddress s.setup (.curve i) 0) w)
  | .windowCommit m i w => some (wordWrite m (itemAddress s.setup (.window i) 0) w)
  | .pictureWord a p => some (wordWrite .scan (4 * a.toNat) (pictureWordOf p))
  | .rstAssert | .rstRelease _ | .powerLoss | .setupReadComplete | .reloadReadComplete | .ownAccessIssue => none
  | .perfEdge _ | .stopLimitExpiry | .cuePulseEnd | .divisionComplete | .cellWriteComplete _ => none
  | .profileVerify | .programTimeout | .recordSelect | .reportWriteComplete => none

/-- R6, R7: the transactions `ts` are forwarded, the oldest first. -/
def forwardedInOrder (ts : List Transaction) (s : State) : State := ts.foldl (fun t x => forwardTransaction x t) s

/-- R34: the stop limit `limit` has passed since the last accepted edge of a running transport. -/
def StopLimitPassed (limit : Nat) (f : Footage) : Prop :=
  f.transport = .running ∧ ∃ e, f.lastEdge = some e ∧ limit ≤ (f.clock - e).toNat

/-- R18: what the taking of all setup values from the shadow `sh` leaves. It is at once a restart, a ring reset and a reload
of all four tables. The staging queue is kept (R13), behind it the TRANSPORT record of a stop limit that has already passed
(R34) and then FAULT SETUP_RANGE for a refused legal word (R15), an order that assumption 14 chooses; and the publication of
the new pointers is requested (R193). The shadows are as they were, unless the read of slot 0's later words is not issued
because none of them lies in the store (R22). -/
def SetupJustTaken (sh : Vector Word 64) (s t : State) : Prop :=
  t.partState = .loading ∧ t.shadow = sh ∧ t.setup = takeShadow sh s.setup
    ∧ t.reload = ⟨⟨true, 0⟩, ⟨true, 0⟩, ⟨true, 0⟩, ⟨true, 0⟩⟩
    ∧ (∃ part, t.port.reloadRequest = some (.item (.slot 0) part) ∧ (part = .rest → t.tables = s.tables))
    ∧ t.ring.head = ⟨0, false⟩ ∧ t.ring.consumer = ⟨0, false⟩ ∧ t.ring.inFlight = false ∧ t.ring.publication = true
    ∧ t.ring.attn = false
    ∧ t.port.reportRequest = some .publication ∧ t.port.inProgress = none ∧ t.port.waiting = s.port.waiting
    ∧ t.detector.reference = none ∧ t.detector.recipValid = false
    ∧ ((∃ v, t.divider.inProgress = some v ∧ v.client = .recip ∧ v.request.divisor = cellCount t.setup)
        ∨ ∃ r, t.divider.recip = some r ∧ r.divisor = cellCount t.setup)
    ∧ t.tracker.openFrame = none
    ∧ t.footage.number = s.footage.number
    ∧ t.footage.phase = (if t.setup.ppf = s.setup.ppf then s.footage.phase else 0)
    ∧ t.profiles = s.profiles ∧ t.lanes = s.lanes ∧ t.gradeList = s.gradeList
    ∧ t.setupSel = s.setupSel ∧ t.resetAsserted = s.resetAsserted ∧ t.returned = s.returned ∧ t.freeCount = s.freeCount
    ∧ t.pending = s.pending
    ∧ (s.tracker.openFrame = none →
        t.tracker = s.tracker ∧ t.mix = s.mix
          ∧ t.detector = { s.detector with reference := none, recipValid := false }
          ∧ ∀ u c : State,
              (StopLimitPassed t.setup.stopLimit s.footage →
                  u = stage (.transport
                    { causes := ⟨false, true, false, false⟩, transport := .stopped, direction := s.footage.direction
                      number := s.footage.number, phase := t.footage.phase }) s) →
              (¬ StopLimitPassed t.setup.stopLimit s.footage → u = s) →
              ((sh[18].extractLsb' 0 10).toNat < (sh[18].extractLsb' 16 10).toNat →
                  c = stage (.fault (.setupRange (setupAddress s 18))) u) →
              (¬ (sh[18].extractLsb' 0 10).toNat < (sh[18].extractLsb' 16 10).toNat → c = u) →
                t.ring.queue = c.ring.queue ∧ t.ring.lost = c.ring.lost)

/-- The four tables are not being reloaded: none is pending and no reload read is requested (R20). -/
def ReloadIdle (s : State) : Prop :=
  (∀ t, (s.reload.get t).pending = false) ∧ s.port.reloadRequest = none

/-- The shadows with those of one table cleared (R75). -/
def clearedShadows (t : TableId) (x : Shadows) : Shadows :=
  match t with
  | .gradeList => { x with slots := Vector.replicate 512 (Item.cleared 3) }
  | .records => { x with records := Vector.replicate 256 (Item.cleared 7) }
  | .curves => { x with curves := Vector.replicate 16 (Item.cleared 16) }
  | .windows => { x with windows := Vector.replicate 16 (Item.cleared 3) }

/-- The first read of a table that starts over: of item 0's words 1 and up, or of its word 0 when none of those words
lies in the store (R22). -/
def firstReadOf (u : Setup) (t : TableId) : ReloadRead :=
  .item (itemAt t 0) (if partInStore u (itemAt t 0) .rest then .rest else .word0)

/-! ## Invariants -/

/-- The frame store keeps its canonical form. -/
def StoreCanonical (s : State) : Prop := Memory.wf s.store

/-- R2: an address at which a word begins, in the store. -/
def WordAddress (a : Nat) : Prop := a % 4 = 0 ∧ a < Config.storeBytes

/-- R2, R6, R189: every byte of the store lies in its 64 MiB; every base in use, and the address of every word of a report
write in progress, is a word address of the store; and every waiting transaction begins at a multiple of 4 bytes. -/
def AddressesSound (s : State) : Prop :=
  (∀ c ∈ s.store, c.1 < Config.storeBytes)
    ∧ (∀ b : Fin 4, WordAddress s.setup.bufferBase[b.val]) ∧ (∀ t, WordAddress (s.setup.tableBase.get t))
    ∧ WordAddress s.setup.ringBase
    ∧ (∀ t ∈ s.port.waiting, t.address % 4 = 0)
    ∧ ∀ w cells d, s.port.inProgress = some (.report w cells d) → ∀ c ∈ cells, WordAddress c.1

/-- R48: the ordered list is in strictly increasing order of start frame, every start frame lies in 0 to 999,999, and the
entries are those of the LISTED slots, one for each. -/
def OrderedListSound (s : State) : Prop :=
  s.gradeList.ordered.Pairwise (fun a b => a.fields.start < b.fields.start)
    ∧ (∀ e ∈ s.gradeList.ordered, 0 ≤ e.fields.start ∧ e.fields.start ≤ 999999)
    ∧ (s.gradeList.ordered.map (·.slot)).Nodup
    ∧ ∀ i : Fin 512, (∃ e ∈ s.gradeList.ordered, e.slot = i) ↔ s.gradeList.status[i.val] = .listed

/-- R14: the clamped setup values are in their ranges, and the legal lo is never above the legal hi (R15). -/
def SetupInRange (s : State) : Prop :=
  let u := s.setup
  (96 ≤ u.width ∧ u.width ≤ 2048) ∧ (64 ≤ u.height ∧ u.height ≤ 1600) ∧ (1 ≤ u.ppf ∧ u.ppf ≤ 4)
    ∧ (1000 ≤ u.stopLimit ∧ u.stopLimit ≤ 1000000) ∧ u.perfGuard ≤ 1000
    ∧ (1 ≤ u.frame.frameThreshold ∧ u.frame.frameThreshold ≤ 384)
    ∧ (256 ≤ u.ringSize ∧ u.ringSize ≤ 16384) ∧ (-8 ≤ u.gateOffset ∧ u.gateOffset ≤ 8)
    ∧ u.frame.legalLo ≤ u.frame.legalHi

/-- R29: the frame number lies in −99,999 to +999,999 and the phase in 0 to ppf − 1. -/
def FootageInRange (s : State) : Prop :=
  (-99999 ≤ s.footage.number ∧ s.footage.number ≤ 999999) ∧ s.footage.phase < s.setup.ppf

/-- R34: a running transport has a last accepted edge, and no more than the stop limit has passed since it. -/
def RunningWithinStopLimit (s : State) : Prop :=
  s.footage.transport = .running → ∃ t, s.footage.lastEdge = some t ∧ microseconds t s.footage.clock ≤ s.setup.stopLimit

/-- R90, R91: no frame is open outside ACTIVE. -/
def OpenOnlyInActive (s : State) : Prop := s.tracker.openFrame ≠ none → s.partState = .active

/-- R138: no divisor that the Divider Unit uses or holds is zero. -/
def DivisorsNonzero (s : State) : Prop :=
  (∀ v, s.divider.inProgress = some v → v.request.divisor ≠ 0)
    ∧ ∀ c r, s.divider.slot c = some r → r.divisor ≠ 0

/-- R129, R142: a MIX request is 65,536 by N + 1 with N from 1 to 255. -/
def MixRequest (r : Request) : Prop := r.dividend = 65536 ∧ 2 ≤ r.divisor ∧ r.divisor ≤ 256

/-- R128, R129, R134, R142: the held factor lies in 1 to 256, and is 256 or the factor of a position j in a dissolve of length
n; the cached pair is a length N with its step, the waiting
record is a position of a dissolve, every entry's dissolve length is 0 to 255, and every MIX request is one for a length. -/
def MixSound (s : State) : Prop :=
  (1 ≤ s.mix.current ∧ s.mix.current ≤ 256)
    ∧ (s.mix.current = 256 ∨ ∃ n j, 1 ≤ j ∧ j ≤ n ∧ n ≤ 255 ∧ s.mix.current = (j * (65536 / (n + 1)) + 128) / 256)
    ∧ (∀ c, s.mix.cache = some c → (1 ≤ c.length ∧ c.length ≤ 255) ∧ c.step = 65536 / (c.length + 1))
    ∧ (∀ w, s.mix.waiting = some w → 1 ≤ w.j ∧ w.j ≤ w.length ∧ w.length ≤ 255)
    ∧ (∀ e ∈ s.gradeList.ordered, e.fields.dissolve ≤ 255)
    ∧ (∀ v, s.divider.inProgress = some v → v.client = .mix → MixRequest v.request)
    ∧ ∀ r, s.divider.mix = some r → MixRequest r

/-- R143, R144: a RECIP request's dividend belongs to its divisor; and while the RECIP-valid mark is set, recip is the
reciprocal of the cell count of the geometry in use. -/
def RecipSound (s : State) : Prop :=
  (∀ v, s.divider.inProgress = some v → v.client = .recip → v.request.dividend = 16777216 + v.request.divisor - 1)
    ∧ (∀ r, s.divider.recip = some r → r.dividend = 16777216 + r.divisor - 1)
    ∧ (s.detector.recipValid = true →
        s.detector.recip = some ((16777216 + cellCount s.setup - 1) / cellCount s.setup))

/-- R160: the recent-cuts list holds at most 16 frame numbers without duplicates. -/
def RecentCutsSound (s : State) : Prop := s.detector.recentCuts.length ≤ 16 ∧ s.detector.recentCuts.Nodup

/-- R178, R180: the profile being written is INCOMPLETE, and no lane's held copy has its number. -/
def ProgrammingSound (s : State) : Prop :=
  ∀ op, s.profiles.operation = some op →
    s.profiles.profiles[op.number.val].mark = .incomplete
      ∧ s.lanes.incoming.held.number ≠ some op.number ∧ s.lanes.outgoing.held.number ≠ some op.number

/-- R186: the staging queue holds at most 8 records and the lost count at most 65,535. -/
def QueueBounded (s : State) : Prop := s.ring.queue.length ≤ 8 ∧ s.ring.lost ≤ 65535

/-- R192: ATTN is asserted exactly while ATTN enable in use is 1 and the committed head differs from the consumer index. -/
def AttnFollowsPointers (s : State) : Prop :=
  s.ring.attn = (s.setup.attnEnable && decide (s.ring.head ≠ s.ring.consumer))

/-- R185, R188, R189: both pointers lie in the ring and the used words do not exceed its size; a record in flight is the
oldest of the queue and fits into the free words; a record write is requested or under way only for a record in flight; and
no report write is requested while one is under way. -/
def RingSound (s : State) : Prop :=
  s.ring.head.offset < s.setup.ringSize ∧ s.ring.consumer.offset < s.setup.ringSize
    ∧ usedWords s ≤ s.setup.ringSize
    ∧ (s.ring.inFlight = true → ∃ r rest, s.ring.queue = r :: rest ∧ r.length ≤ freeWords s)
    ∧ (∀ w, s.port.reportRequest = some w → w ≠ .publication → s.ring.inFlight = true)
    ∧ (∀ w cells, s.port.inProgress = some (.report w cells false) → w ≠ .publication → s.ring.inFlight = true)
    ∧ (reportInProgress s.port = true → s.port.reportRequest = none)

/-- R21: RST is asserted and every block is at its reset values. -/
def HeldInReset (s : State) : Prop :=
  s.resetAsserted = true ∧ s.port.waiting = [] ∧ s.profiles.operation = none ∧ resetBlocks s = s

end Sys2Proof.Machine
end

