-- ==== Sys2Proof/Certificates/Slice0/Obligations.lean ====
section
/-! DEFINITION. The statements for the provers. A statement of a command's result says that `exec` answers that next state;
what the state it names does not update is left as it was, which is the command's frame. Premises: `PortOpen`, RST released
and no own access in progress; `SetupTaken`, any part state but UNSET. -/

open Sys2Proof Sys2Proof.Machine

/-! ## The machine -/

/-- A step takes the command at the front of the queue and runs it on the rest (the model's queue, assumption 1). -/
def Obligations.StepRunsFrontCommand : Prop :=
  ∀ (c : Instr) (rest : List Instr) (s : State), s.pending = c :: rest → step s = exec c (s.withPending rest)

/-- R32, assumption 8 (DESIGN CHOICE): on an empty queue a step is one µs of the time base. With no time-out due, only the
20-bit counter advances, and it wraps; under RST it stays. -/
def Obligations.IdleStepIsOneMicrosecond : Prop :=
  ∀ s : State, s.pending = [] →
    (s.resetAsserted = true → step s = .next s)
      ∧ (s.resetAsserted = false → NothingDue s →
          step s = .next { s with footage := { s.footage with clock := s.footage.clock + 1 } })

/-- R1: every command that a sender can present completes; a term that is no transaction of the store bus stops the
machine with the model's fault. -/
def Obligations.WellFormedCommandsComplete : Prop :=
  (∀ (c : Instr) (s : State), c.wellFormed = true → ∃ t, exec c s = .next t)
    ∧ ∀ (x : Transaction) (s : State), x.wellFormed = false →
        exec (.passedTransaction x) s = .fault .malformedTransaction

/-! ## Traffic -/

/-- R1, R4: with the port open, a read returns memory's words to its master, with 0 for a word past the store; a write burst
none of whose words is captured, graded or refused reaches memory as written, and changes nothing else. -/
def Obligations.PassedTransactionsPass : Prop :=
  ∀ (m : Master) (a : Nat) (s : State), PortOpen s → a % 4 = 0 → a < Config.storeBytes →
    (∀ n : Nat, 1 ≤ n → n ≤ 16 →
        exec (.passedTransaction { master := m, address := a, body := .read n }) s =
          .next { s with
            returned := s.returned ++
              [{ master := m
                 words := (List.range n).map fun i =>
                   if a + 4 * i < Config.storeBytes then readWord s.store (a + 4 * i) else 0 }] })
      ∧ ∀ ws : List WriteWord, 1 ≤ ws.length → ws.length ≤ 16 → BurstPasses m a ws s →
          exec (.passedTransaction { master := m, address := a, body := .write ws }) s =
            .next { s with store := passedStore s.store a ws }

/-- R4, R5: a word written to memory differs from the word the master wrote only if the master is SCAN. Whatever the windows
do with the words of a CONTROL, OUTPUT or AUX burst, memory takes each word of it in the store as written: each enabled byte
lane reads back as it was written, and every other byte reads as before. That lane k of a word is its bits 8k + 7 to 8k and
the byte at the word's address plus k is assumption 7 (DESIGN CHOICE). -/
def Obligations.ControlWritesReachMemory : Prop :=
  ∀ (m : Master) (a : Nat) (ws : List WriteWord) (s : State), m ≠ .scan → s.port.inProgress = none →
    a % 4 = 0 → a < Config.storeBytes → 1 ≤ ws.length → ws.length ≤ 16 → StoreCanonical s →
      ∃ t, exec (.passedTransaction { master := m, address := a, body := .write ws }) s = .next t
        ∧ t.store = passedStore s.store a ws
        ∧ (∀ (i k : Nat) (w : WriteWord), ws[i]? = some w → k < 4 → a + 4 * i < Config.storeBytes →
            readByte t.store (a + 4 * i + k) =
              if w.lanes.getLsbD k then w.data.extractLsb' (8 * k) 8 else readByte s.store (a + 4 * i + k))
        ∧ ∀ b : Nat, (b < a ∨ a + 4 * ws.length ≤ b ∨ Config.storeBytes ≤ b) → readByte t.store b = readByte s.store b

/-- R6, R21: a transaction that arrives while an own access runs waits for it, behind those that wait already; with the port
free it is forwarded at once, by the operation that forwards a waiting one. While RST is asserted a transaction passes
unaltered, and nothing is captured or graded. -/
def Obligations.BusCommandsWaitOrPassUnderReset : Prop :=
  ∀ (c : Instr) (x : Transaction) (s : State), c.wellFormed = true → busTransaction s c = some x →
    (s.port.inProgress ≠ none →
        exec c s = .next { s with port := { s.port with waiting := s.port.waiting ++ [x] } })
      ∧ (s.port.inProgress = none → exec c s = .next (forwardTransaction x s))
      ∧ (s.resetAsserted = true → s.port.inProgress = none →
          exec c s = .next
            (match x.body with
              | .write ws => { s with store := passedStore s.store x.address ws }
              | .read n =>
                  { s with returned := s.returned ++ [{ master := x.master, words := readWords s.store x.address n }] }))

/-! ## RST and the setup read -/

/-- R16, R21, R45, R91, R146, R169, R173, R181, R194: RST, and loss of power, put every block at its reset values. The
profiles stay, but for the cells of a profile whose programming is abandoned: it keeps its mark. A report write in progress
leaves what it had reached, a number of its words that no statement fixes (assumption 6, DESIGN CHOICE). That the frame store
keeps its contents through RST and through loss of power is assumption 4 (DESIGN CHOICE), that SETUP_SEL keeps its sampled
value is assumption 13 (DESIGN CHOICE), and that POWER_LOSS has the effect of RST_ASSERT is assumption 11 (DEDUCED). -/
def Obligations.ResetHoldsEveryBlock : Prop :=
  ∀ s : State, ∃ t, exec .rstAssert s = .next t ∧ exec .powerLoss s = .next t
    ∧ t = { State.held with
        setupSel := s.setupSel, profiles := t.profiles, store := t.store, returned := t.returned
        freeCount := t.freeCount, pending := s.pending }
    ∧ t.profiles.operation = none
    ∧ (∀ n : Fin 32,
        t.profiles.profiles[n.val].mark = s.profiles.profiles[n.val].mark
          ∧ ((∀ op, s.profiles.operation = some op → op.number ≠ n) →
              t.profiles.profiles[n.val] = s.profiles.profiles[n.val]))
    ∧ (s.port.waiting = [] →
        t.returned = s.returned
          ∧ ((∀ w cells d, s.port.inProgress ≠ some (.report w cells d)) → t.store = s.store)
          ∧ ∀ w cells d, s.port.inProgress = some (.report w cells d) → ∃ k, t.store = writeCells s.store (cells.take k))

/-- R21, R196: the release of RST samples the straps and requests the first setup read; where RST is not asserted, the
command changes nothing (assumption 9). -/
def Obligations.ReleaseRequestsTheSetupRead : Prop :=
  ∀ (b : Fin 8) (s : State),
    (s.resetAsserted = true →
        exec (.rstRelease b) s =
          .next { s with
            resetAsserted := false, setupSel := b, port := { s.port with reloadRequest := some (.setup 0) } })
      ∧ (s.resetAsserted = false → exec (.rstRelease b) s = .next s)

/-- R6, R7, R13, R15, R18, R21, R193, R196: a setup read installs the 16 words that memory returns. One of the first three
requests the next. The fourth has the revision of word 0 examined: with revision 1 the setup is taken, and with any other the
part stays as it is. After that effect the transactions that waited for the read are forwarded, the oldest first, in the same
event (assumption 10, DEDUCED). The order of the records that the taking stages is assumption 14 (DESIGN CHOICE). -/
def Obligations.SetupReadInstallsItsWords : Prop :=
  ∀ (q : Fin 4) (d : Bool) (s : State), s.port.inProgress = some (.reload (.setup q) d) →
    s.port.reloadRequest = none →
      ∃ sh : Vector Word 64,
        (∀ k : Fin 64, sh[k.val] =
            if 16 * q.val ≤ k.val ∧ k.val < 16 * q.val + 16 then readWord s.store (setupAddress s k.val)
            else s.shadow[k.val])
          ∧ (∀ h : q.val + 1 < 4, exec .setupReadComplete s =
              .next (forwardedInOrder s.port.waiting
                { s with
                  shadow := sh
                  port := { s.port with
                    inProgress := none, waiting := [], reloadRequest := some (.setup ⟨q.val + 1, h⟩) } }))
          ∧ (q = 3 → revisionOf sh[0] ≠ 1 →
              exec .setupReadComplete s = .next (forwardedInOrder s.port.waiting
                { s with shadow := sh, port := { s.port with inProgress := none, waiting := [] } }))
          ∧ (q = 3 → revisionOf sh[0] = 1 →
              ∃ t, exec .setupReadComplete s =
                  .next (forwardedInOrder s.port.waiting { t with port := { t.port with waiting := [] } })
                ∧ t.store = s.store ∧ SetupJustTaken sh s t)

/-- R8, R13, R15, R18, R193: in UNSET a written word 0 with revision 1 takes all setup values, unless the setup read is under
way; with any other revision, or while the setup read is under way, it only replaces the shadow word. The order of the records
that the taking stages is assumption 14 (DESIGN CHOICE). -/
def Obligations.RevisionOneLeavesUnset : Prop :=
  ∀ (m : Master) (w : Word) (s : State), PortOpen s → s.partState = .unset →
    ((revisionOf w ≠ 1 ∨ setupReadOutstanding s.port = true) →
        exec (.layoutRevisionWrite m w) s = .next (capturedAt 0 w s))
      ∧ (revisionOf w = 1 → s.port.reloadRequest = none →
          ∃ t, exec (.layoutRevisionWrite m w) s = .next t
            ∧ t.store = writeWord s.store (setupAddress s 0) w
            ∧ SetupJustTaken (s.shadow.set 0 w) s t)

/-- R19, R57, R75, R98, R194: outside UNSET a written word 0 with another revision closes an open frame TRUNCATED, drops every
pending table, clears the four shadows and the ordered list, and puts the part in UNSET. Setup values in use, footage and
profiles are kept. That the next-item indexes become 0 is assumption 28 (DESIGN CHOICE). -/
def Obligations.OtherRevisionEntersUnset : Prop :=
  ∀ (m : Master) (w : Word) (s : State), PortOpen s → SetupTaken s → revisionOf w ≠ 1 →
    exec (.layoutRevisionWrite m w) s = .next
      (let c := closeFrame false (capturedAt 0 w s)
       { c with
         partState := .unset
         reload := ⟨⟨false, 0⟩, ⟨false, 0⟩, ⟨false, 0⟩, ⟨false, 0⟩⟩
         tables := Shadows.reset
         gradeList := GradeList.reset
         port := { s.port with reloadRequest := none, reportRequest := none }
         ring := { c.ring with inFlight := false } })

/-! ## Setup words -/

/-- R9, R20, R192: a word 0 with revision 1 takes program enable, ATTN enable and ENABLE. A change of ATTN enable sets the
line afresh. A change of ENABLE moves STANDBY to ACTIVE, and ACTIVE to STANDBY with an open frame closed TRUNCATED; in
LOADING it changes the value alone. The two rows of the table that name such a write have one effect, in every state that
of LAYOUT_REVISION_WRITE with that word (assumption 22, DESIGN CHOICE). -/
def Obligations.ControlWordMovesThePart : Prop :=
  (∀ (m : Master) (low : BitVec 24) (s : State),
      exec (.enable m low) s = exec (.layoutRevisionWrite m (controlWord low)) s
        ∧ exec (.attnEnable m low) s = exec (.layoutRevisionWrite m (controlWord low)) s)
    ∧ ∀ (m : Master) (low : BitVec 24) (s : State), PortOpen s → SetupTaken s →
    ∀ t, t =
      (let c := capturedAt 0 (controlWord low) s
       let c := { c with
         setup := { s.setup with
           programEnable := low.getLsbD 2, attnEnable := low.getLsbD 1, enable := low.getLsbD 0 }
         ring := { s.ring with
           attn := if low.getLsbD 1 = s.setup.attnEnable then s.ring.attn
                   else low.getLsbD 1 && decide (s.ring.head ≠ s.ring.consumer) } }
       if low.getLsbD 0 = s.setup.enable then c
       else if s.partState = .standby ∧ low.getLsbD 0 = true then { c with partState := .active }
       else if s.partState = .active ∧ low.getLsbD 0 = false then { closeFrame false c with partState := .standby }
       else c) →
      exec (.enable m low) s = .next t ∧ exec (.attnEnable m low) s = .next t

/-- R191, R192, R202: a consumer word is accepted when its offset is below ring size and its distance from the held consumer
index is at most the used count; ATTN is then reconsidered. Any other is refused with FAULT CONSUMER_RANGE, which carries the
word as written and the committed head. In UNSET it is not taken and raises no fault. -/
def Obligations.ConsumerIndexAcceptedOrRefused : Prop :=
  (∀ (m : Master) (w : Word) (s : State), PortOpen s → s.partState = .unset →
      exec (.consumerIndexWrite m w) s = .next (capturedAt 2 w s))
    ∧ ∀ (m : Master) (w : Word) (s : State), PortOpen s → SetupTaken s →
    ∀ p : RingPointer, p = { offset := (w.extractLsb' 0 15).toNat, wrap := w.getLsbD 31 } →
      (p.offset < s.setup.ringSize ∧ ringDistance s.setup.ringSize s.ring.consumer p ≤ usedWords s →
          exec (.consumerIndexWrite m w) s = .next
            { capturedAt 2 w s with
              ring := { s.ring with consumer := p, attn := s.setup.attnEnable && decide (s.ring.head ≠ p) } })
        ∧ (¬ (p.offset < s.setup.ringSize ∧ ringDistance s.setup.ringSize s.ring.consumer p ≤ usedWords s) →
            exec (.consumerIndexWrite m w) s = .next
              (stage (.fault (.consumerRange w s.ring.head)) (capturedAt 2 w s)))

/-- R8, R11, R14, R98, R143: a word of the Restart class that changes W, H or a frame buffer base, as clamped, closes an open
frame TRUNCATED, discards the reference, clears the RECIP-valid mark and requests RECIP for the new geometry. One that leaves
the values in use as they were changes nothing but the shadow. -/
def Obligations.RestartWordRestarts : Prop :=
  ∀ (m : Master) (k : RestartWord) (w : Word) (s : State), PortOpen s → SetupTaken s →
    ∀ u : Setup, u =
        (match k with
          | .geometry =>
              { s.setup with
                width := max 96 (min 2048 (w.extractLsb' 0 12).toNat)
                height := max 64 (min 1600 (w.extractLsb' 16 11).toNat) }
          | .bufferBase b =>
              { s.setup with bufferBase := s.setup.bufferBase.set b.val (4 * (w.extractLsb' 2 24).toNat) }) →
      (u = s.setup → exec (.restart m k w) s = .next (capturedAt (restartOffset k) w s))
        ∧ (u ≠ s.setup → exec (.restart m k w) s = .next
            (let c := closeFrame false ((capturedAt (restartOffset k) w s).withSetup u)
             { c with
               detector := { c.detector with reference := none, recipValid := false }
               divider := s.divider.request .recip (16777216 + cellCount u - 1) (cellCount u) }))

/-- R8, R12, R22, R57, R75, R98, R196: a word that changes a table's base closes an open frame TRUNCATED, clears that table's
shadow, makes the table pending from item 0 and puts the part in LOADING; the other tables are left as they were. With the
reload engine idle it requests the table's first read. With a read waiting at the arbiter, that request is kept when it is a
second read of another table, or a first read of the table that is still the first pending one; otherwise it is withdrawn
and the first read of the first pending table takes its place. A word that leaves the base as it was changes only the
shadow. -/
def Obligations.RetargetRestartsItsTable : Prop :=
  ∀ (m : Master) (k : TableId) (w : Word) (s : State), PortOpen s → SetupTaken s →
    ∀ u : Setup, u = { s.setup with tableBase := s.setup.tableBase.set k (4 * (w.extractLsb' 2 24).toNat) } →
      (u = s.setup → exec (.retarget m k w) s = .next (capturedAt (retargetOffset k) w s))
        ∧ (u ≠ s.setup → ∀ (c : State) (r : PerTable TableProgress), r = s.reload.set k { pending := true, next := 0 } →
            c = { closeFrame false ((capturedAt (retargetOffset k) w s).withSetup u) with
                  partState := .loading
                  tables := clearedShadows k s.tables
                  gradeList := if k = .gradeList then GradeList.reset else s.gradeList
                  reload := r } →
            (ReloadIdle s → exec (.retarget m k w) s =
                .next { c with port := { s.port with reloadRequest := some (firstReadOf u k) } })
              ∧ ∀ (ref : ItemRef) (part : ItemPart), s.port.reloadRequest = some (.item ref part) →
                ∀ (pre post : List TableId) (t : TableId), [.gradeList, .records, .curves, .windows] = pre ++ t :: post →
                  (∀ q ∈ pre, (r.get q).pending = false) → (r.get t).pending = true →
                    itemAddress u (itemAt t (r.get t).next) 1 < Config.storeBytes →
                      exec (.retarget m k w) s = .next
                        { c with port := { s.port with
                            reloadRequest :=
                              if ref.table ≠ k ∧ (part = .word0 ∨ ref.table = t) then some (.item ref part)
                              else some (.item (itemAt t (r.get t).next) .rest) } })

/-- R8, R13, R14, R193: a word that changes the ring base or the ring size in use puts both pointers at 0/0, sets the
publication mark, deasserts ATTN and requests the publication. The staging queue is kept. -/
def Obligations.RingWordResetsTheRing : Prop :=
  ∀ (m : Master) (k : RingWord) (w : Word) (s : State), PortOpen s → SetupTaken s →
    ∀ u : Setup, u =
        (match k with
          | .base => { s.setup with ringBase := 4 * (w.extractLsb' 2 24).toNat }
          | .size => { s.setup with ringSize := max 256 (min 16384 (w.extractLsb' 0 15).toNat) }) →
      (u = s.setup → exec (.ringReset m k w) s = .next (capturedAt (ringWordOffset k) w s))
        ∧ (u ≠ s.setup → exec (.ringReset m k w) s = .next
            { capturedAt (ringWordOffset k) w s with
              setup := u
              port := { s.port with reportRequest := some .publication }
              ring := { s.ring with
                head := ⟨0, false⟩, consumer := ⟨0, false⟩, inFlight := false, publication := true, attn := false } })

/-- R15, R195: a legal word is taken whole, or refused with FAULT SETUP_RANGE and the legal word's byte address when its lo
is above its hi. -/
def Obligations.LegalWordTakenWholeOrRefused : Prop :=
  ∀ (m : Master) (w : Word) (s : State), PortOpen s → SetupTaken s →
    ((w.extractLsb' 16 10).toNat ≤ (w.extractLsb' 0 10).toNat →
        exec (.legalWordWrite m w) s = .next
          { capturedAt 18 w s with
            setup := { s.setup with
              frame := { s.setup.frame with
                legalEnable := w.getLsbD 31
                legalLo := (w.extractLsb' 16 10).toNat
                legalHi := (w.extractLsb' 0 10).toNat } } })
      ∧ ((w.extractLsb' 0 10).toNat < (w.extractLsb' 16 10).toNat →
          exec (.legalWordWrite m w) s = .next
            (stage (.fault (.setupRange (setupAddress s 18))) (capturedAt 18 w s)))

/-- R14, R30: setup word 15 takes perf guard and ppf as clamped; a change of ppf sets the phase to 0 and clears LIMIT. -/
def Obligations.PpfChangeClearsThePhase : Prop :=
  ∀ (m : Master) (w : Word) (s : State), PortOpen s → SetupTaken s →
    ∀ p : Nat, p = max 1 (min 4 (w.extractLsb' 0 3).toNat) →
      exec (.ppfChange m w) s = .next
        { capturedAt 15 w s with
          setup := { s.setup with perfGuard := min 1000 (w.extractLsb' 16 10).toNat, ppf := p }
          footage := if p = s.setup.ppf then s.footage else { s.footage with phase := 0, limit := false } }

/-- R9, R195: a command code that names no command issues nothing and raises FAULT SETUP_RANGE with the byte address of the
command word. -/
def Obligations.UnnamedCodeRaisesAFault : Prop :=
  ∀ (m : Master) (code : UnnamedCode) (args : CommandArgs) (s : State), PortOpen s → SetupTaken s →
    exec (.unnamedCommandCode m code args) s = .next
      (stage (.fault (.setupRange (setupAddress s 1))) (capturedAt 1 (commandWord code.toBits args) s))

/-- R31: FRAME PRESET sets the frame number, bounded, and the phase, clears LIMIT, and has the Cut Detector discard its
reference, last candidate frame and recent-cuts list. It keeps everything else, makes no SPEED request and stages nothing. -/
def Obligations.FramePresetSetsTheCounter : Prop :=
  ∀ (m : Master) (args : CommandArgs) (s : State), PortOpen s → SetupTaken s →
    exec (.framePreset m args) s = .next
      { capturedAt 1 (commandWord 1 args) s with
        footage := { s.footage with number := max (-99999) (min 999999 args.preset.toInt), phase := 0, limit := false }
        detector := { s.detector with reference := none, lastCandidate := none, recentCuts := [] } }

/-- R22, R57, R75, R98, R196: RELOAD ALL closes an open frame TRUNCATED, clears all four shadows and the ordered list, makes
all four tables pending from item 0, puts the part in LOADING and requests the first read of slot 0. -/
def Obligations.ReloadAllStartsOver : Prop :=
  ∀ (m : Master) (args : CommandArgs) (s : State), PortOpen s → SetupTaken s →
    setupReadOutstanding s.port = false → WordAddress s.setup.tableBase.gradeList →
      exec (.reloadAll m args) s = .next
        (let c := closeFrame false (capturedAt 1 (commandWord 2 args) s)
         { c with
           partState := .loading
           tables := Shadows.reset
           gradeList := GradeList.reset
           reload := ⟨⟨true, 0⟩, ⟨true, 0⟩, ⟨true, 0⟩, ⟨true, 0⟩⟩
           port := { s.port with reloadRequest := some (firstReadOf s.setup .gradeList) } })

/-- R177, R178, R195: PROGRAM PROFILE is refused by the first of four conditions that holds, with FAULT PROGRAM_REFUSED and
nothing else changed. Otherwise the operation starts from the staging values and the time limit in use, the profile is marked
INCOMPLETE, and each held copy of its number takes number none and keeps its values. In UNSET no command is issued and no
fault is raised. -/
def Obligations.ProgramProfileStartsOrIsRefused : Prop :=
  (∀ (m : Master) (args : CommandArgs) (s : State), PortOpen s → s.partState = .unset →
      exec (.programProfile m args) s = .next (capturedAt 1 (commandWord 3 args) s))
    ∧ ∀ (m : Master) (args : CommandArgs) (s : State) (n : Fin 32) (c : State), PortOpen s → SetupTaken s →
    n.val = args.profile.toNat → c = capturedAt 1 (commandWord 3 args) s →
      (∀ reason : ProgramRefusal,
          (reason = .notEnabled ∧ s.setup.programEnable = false
            ∨ reason = .frameOpen ∧ s.setup.programEnable = true ∧ s.tracker.openFrame ≠ none
            ∨ reason = .running ∧ s.setup.programEnable = true ∧ s.tracker.openFrame = none
                ∧ s.footage.transport = .running
            ∨ reason = .busy ∧ s.setup.programEnable = true ∧ s.tracker.openFrame = none
                ∧ s.footage.transport = .stopped ∧ s.profiles.operation ≠ none) →
          exec (.programProfile m args) s = .next (stage (.fault (.programRefused reason .program n)) c))
        ∧ (s.setup.programEnable = true → s.tracker.openFrame = none → s.footage.transport = .stopped →
            s.profiles.operation = none →
            exec (.programProfile m args) s = .next
              { c with
                profiles :=
                  { profiles := s.profiles.profiles.set n.val { s.profiles.profiles[n.val] with mark := .incomplete }
                    operation := some
                      { number := n, values := s.setup.staging, limit := s.setup.programLimit
                        acceptedAt := s.footage.clock, phase := .writing } }
                lanes :=
                  { incoming := { s.lanes.incoming with
                      held := { s.lanes.incoming.held with
                        number := if s.lanes.incoming.held.number = some n then none
                                  else s.lanes.incoming.held.number } }
                    outgoing := { s.lanes.outgoing with
                      held := { s.lanes.outgoing.held with
                        number := if s.lanes.outgoing.held.number = some n then none
                                  else s.lanes.outgoing.held.number } } } })

/-- R182: READ PROFILE stages a PROFILE record with the profile's values and mark when no programming operation is in
progress, and is refused with BUSY otherwise. It changes nothing in the store or the lanes. -/
def Obligations.ReadProfileReportsOrIsRefused : Prop :=
  ∀ (m : Master) (args : CommandArgs) (s : State) (n : Fin 32), PortOpen s → SetupTaken s → n.val = args.profile.toNat →
    (s.profiles.operation = none →
        exec (.readProfile m args) s = .next
          (stage (.profileRead n s.profiles.profiles[n.val]) (capturedAt 1 (commandWord 4 args) s)))
      ∧ (s.profiles.operation ≠ none →
          exec (.readProfile m args) s = .next
            (stage (.fault (.programRefused .busy .read n)) (capturedAt 1 (commandWord 4 args) s)))

/-- R8, R10, R14, R199: setup words 19 to 23, of the At-next-frame-open class, change the values in use and nothing else; an
open frame keeps what it latched. -/
def Obligations.FrameSetupWordsTakeTheirFields : Prop :=
  ∀ (m : Master) (w : Word) (s : State), PortOpen s → SetupTaken s →
    exec (.setupWrite m 19 w) s = .next
        { capturedAt 19 w s with
          setup := { s.setup with
            frame := { s.setup.frame with
              mode := (match (w.extractLsb' 30 2).toNat with
                | 0 => .off | 1 => .flat | 2 => .bars | _ => .leader)
              fill := ⟨(w.extractLsb' 20 10).toNat, (w.extractLsb' 10 10).toNat, (w.extractLsb' 0 10).toNat⟩ } } }
      ∧ exec (.setupWrite m 20 w) s = .next
        { capturedAt 20 w s with
          setup := { s.setup with
            defaultProfile := Fin.ofNat 32 (w.extractLsb' 24 5).toNat
            defaultRecord := Fin.ofNat 256 (w.extractLsb' 16 8).toNat
            frame := { s.setup.frame with barLevel := (w.extractLsb' 0 10).toNat } } }
      ∧ exec (.setupWrite m 21 w) s = .next
        { capturedAt 21 w s with
          setup := { s.setup with
            gateOffset := max (-8) (min 8 (w.extractLsb' 0 5).toInt)
            frame := { s.setup.frame with summaryEnable := w.getLsbD 31, scdEnable := w.getLsbD 30 } } }
      ∧ exec (.setupWrite m 22 w) s = .next
        { capturedAt 22 w s with
          setup := { s.setup with
            frame := { s.setup.frame with
              holdoff := (w.extractLsb' 24 8).toNat
              frameThreshold := max 1 (min 384 (w.extractLsb' 12 9).toNat)
              cellThreshold := (w.extractLsb' 0 10).toNat } } }
      ∧ exec (.setupWrite m 23 w) s = .next
        { capturedAt 23 w s with
          setup := { s.setup with
            frame := { s.setup.frame with
              speedHi := (w.extractLsb' 16 16).toNat, speedLo := (w.extractLsb' 0 16).toNat } } }

/-- R4, R8, R9, R34, R199: setup words of the Immediate class that hold a value change it at capture, and a stop limit that
has already passed expires at once; code NONE and words without a field change nothing but the shadow; in UNSET no field of
any word but word 0 is taken; and the head word is never captured. The rows of the table that name one setup word have, in
every state, the effect of SETUP_WRITE at its offset (assumption 20, DESIGN CHOICE). -/
def Obligations.ImmediateSetupWordsTakeTheirFields : Prop :=
  (∀ (m : Master) (w : Word) (s : State),
      exec (.layoutRevisionWrite m w) s = exec (.setupWrite m 0 w) s
      ∧ exec (.consumerIndexWrite m w) s = exec (.setupWrite m 2 w) s
      ∧ (∀ k, exec (.restart m k w) s = exec (.setupWrite m (restartOffset k) w) s)
      ∧ (∀ k, exec (.retarget m k w) s = exec (.setupWrite m (retargetOffset k) w) s)
      ∧ (∀ k, exec (.ringReset m k w) s = exec (.setupWrite m (ringWordOffset k) w) s)
      ∧ exec (.legalWordWrite m w) s = exec (.setupWrite m 18 w) s
      ∧ exec (.ppfChange m w) s = exec (.setupWrite m 15 w) s
      ∧ ∀ args : CommandArgs,
          exec (.framePreset m args) s = exec (.setupWrite m 1 (commandWord 1 args)) s
            ∧ exec (.reloadAll m args) s = exec (.setupWrite m 1 (commandWord 2 args)) s
            ∧ exec (.programProfile m args) s = exec (.setupWrite m 1 (commandWord 3 args)) s
            ∧ exec (.readProfile m args) s = exec (.setupWrite m 1 (commandWord 4 args)) s
            ∧ ∀ code : UnnamedCode,
                exec (.unnamedCommandCode m code args) s = exec (.setupWrite m 1 (commandWord code.toBits args)) s)
    ∧ ∀ (m : Master) (w : Word) (s : State), PortOpen s →
    (SetupTaken s →
      exec (.setupWrite m 16 w) s = .next
          (expireIfDue { capturedAt 16 w s with
            setup := { s.setup with stopLimit := max 1000 (min 1000000 (w.extractLsb' 0 20).toNat) } })
        ∧ exec (.setupWrite m 17 w) s = .next
          { capturedAt 17 w s with
            setup := { s.setup with
              cueWidth := (w.extractLsb' 0 16).toNat
              programLimit := (match (w.extractLsb' 16 2).toNat with
                | 0 => 2500 | 1 => 5000 | 2 => 10000 | _ => 20000) } }
        ∧ exec (.setupWrite m 24 w) s = .next
          { capturedAt 24 w s with
            setup := { s.setup with
              staging := { s.setup.staging with
                invert := w.getLsbD 31
                base := ⟨w.extractLsb' 20 10, w.extractLsb' 10 10, w.extractLsb' 0 10⟩ } } }
        ∧ exec (.setupWrite m 25 w) s = .next
          { capturedAt 25 w s with
            setup := { s.setup with
              staging := { s.setup.staging with
                scale := { s.setup.staging.scale with g := w.extractLsb' 16 12, r := w.extractLsb' 0 12 } } } }
        ∧ exec (.setupWrite m 26 w) s = .next
          { capturedAt 26 w s with
            setup := { s.setup with
              staging := { s.setup.staging with
                scale := { s.setup.staging.scale with b := w.extractLsb' 0 12 } } } }
        ∧ ((w.extractLsb' 29 3).toNat = 0 → exec (.setupWrite m 1 w) s = .next (capturedAt 1 w s))
        ∧ ∀ k : Fin 64, 27 ≤ k.val → exec (.setupWrite m k w) s = .next (capturedAt k w s))
      ∧ (s.partState = .unset → ∀ k : Fin 64, k ≠ 0 → k ≠ 3 →
          exec (.setupWrite m k w) s = .next (capturedAt k w s))
      ∧ exec (.setupWrite m 3 w) s = .next (writtenAt (setupAddress s 3) w s)

/-- R14, R15, R18, R199: the values taken from a whole shadow are the fields of its words, clamped; the legal word is taken
whole or not at all. -/
def Obligations.TakenSetupHoldsEveryField : Prop :=
  ∀ (sh : Vector Word 64) (u : Setup) (fld : Nat → Nat → Nat → Nat) (base : Nat → Nat),
    (∀ k lo len, fld k lo len = ((sh[k]?.getD 0).extractLsb' lo len).toNat) → (∀ k, base k = 4 * fld k 2 24) →
    takeShadow sh u =
      { programEnable := sh[0].getLsbD 2, attnEnable := sh[0].getLsbD 1, enable := sh[0].getLsbD 0
        width := max 96 (min 2048 (fld 4 0 12)), height := max 64 (min 1600 (fld 4 16 11))
        bufferBase := #v[base 5, base 6, base 7, base 8]
        tableBase := ⟨base 9, base 10, base 11, base 12⟩
        ringBase := base 13, ringSize := max 256 (min 16384 (fld 14 0 15))
        perfGuard := min 1000 (fld 15 16 10), ppf := max 1 (min 4 (fld 15 0 3))
        stopLimit := max 1000 (min 1000000 (fld 16 0 20))
        programLimit := (match fld 17 16 2 with
          | 0 => 2500 | 1 => 5000 | 2 => 10000 | _ => 20000)
        cueWidth := fld 17 0 16
        frame :=
          { legalEnable := if fld 18 0 10 < fld 18 16 10 then u.frame.legalEnable else sh[18].getLsbD 31
            legalLo := if fld 18 0 10 < fld 18 16 10 then u.frame.legalLo else fld 18 16 10
            legalHi := if fld 18 0 10 < fld 18 16 10 then u.frame.legalHi else fld 18 0 10
            mode := (match fld 19 30 2 with
              | 0 => .off | 1 => .flat | 2 => .bars | _ => .leader)
            fill := ⟨fld 19 20 10, fld 19 10 10, fld 19 0 10⟩
            barLevel := fld 20 0 10
            summaryEnable := sh[21].getLsbD 31, scdEnable := sh[21].getLsbD 30
            cellThreshold := fld 22 0 10, frameThreshold := max 1 (min 384 (fld 22 12 9)), holdoff := fld 22 24 8
            speedLo := fld 23 0 16, speedHi := fld 23 16 16 }
        defaultProfile := Fin.ofNat 32 (fld 20 24 5), defaultRecord := Fin.ofNat 256 (fld 20 16 8)
        gateOffset := max (-8) (min 8 (sh[21].extractLsb' 0 5).toInt)
        staging :=
          { invert := sh[24].getLsbD 31
            base := ⟨sh[24].extractLsb' 20 10, sh[24].extractLsb' 10 10, sh[24].extractLsb' 0 10⟩
            scale := ⟨sh[25].extractLsb' 0 12, sh[25].extractLsb' 16 12, sh[26].extractLsb' 0 12⟩ } }

/-! ## Table words -/

/-- R5, R86: a word with a byte lane disabled reaches memory with its lane enables as given and is not captured. In a snooped
window, the head word apart, it stages FAULT PARTIAL_SNOOP with its byte address; elsewhere it raises no fault. -/
def Obligations.PartialWordRaisesAFault : Prop :=
  ∀ (m : Master) (a : BitVec 24) (w : Word) (lanes : ByteLanes) (s : State) (c : State), PortOpen s → lanes ≠ 15 →
    c = { s with store := writeLanes s.store (4 * a.toNat) w lanes } →
      (((∃ k, classify s (4 * a.toNat) = .setup k ∧ k ≠ 3) ∨ (∃ ref o, classify s (4 * a.toNat) = .table ref o)) →
          exec (.partialWrite m a w lanes) s = .next (stage (.fault (.partialSnoop (4 * a.toNat))) c))
        ∧ ((classify s (4 * a.toNat) = .setup 3 ∨ classify s (4 * a.toNat) = .ring ∨ classify s (4 * a.toNat) = .plain
              ∨ ∃ b o, classify s (4 * a.toNat) = .buffer b o) →
            exec (.partialWrite m a w lanes) s = .next c)

/-- R24, R70, R72, R73, R83: a full write of word 1 or above of an item replaces that word of its staged copy; a full write of
word 0 of a record, a curve or a window makes the staged words with that word 0 its committed copy. Nothing else changes, so
an open frame keeps what its lanes latched. -/
def Obligations.TableWordsStageAndCommit : Prop :=
  ∀ (m : Master) (w : Word) (s : State), PortOpen s →
    (∀ i : TableWord, ReachesItem i.ref i.offset s →
        exec (.tableWordWrite m i w) s = .next
          { writtenAt (itemAddress s.setup i.ref i.offset) w s with
            tables :=
              match i with
              | .slot n b =>
                  { s.tables with
                    slots := s.tables.slots.set n.val
                      { s.tables.slots[n.val] with staged := s.tables.slots[n.val].staged.set b.val w } }
              | .record n b =>
                  { s.tables with
                    records := s.tables.records.set n.val
                      { s.tables.records[n.val] with staged := s.tables.records[n.val].staged.set b.val w } }
              | .curve n b =>
                  { s.tables with
                    curves := s.tables.curves.set n.val
                      { s.tables.curves[n.val] with staged := s.tables.curves[n.val].staged.set b.val w } }
              | .window n b =>
                  { s.tables with
                    windows := s.tables.windows.set n.val
                      { s.tables.windows[n.val] with staged := s.tables.windows[n.val].staged.set b.val w } } })
      ∧ (∀ n : Fin 256, ReachesItem (.record n) 0 s →
          exec (.recordCommit m n w) s = .next
            { writtenAt (itemAddress s.setup (.record n) 0) w s with
              tables :=
                { s.tables with
                  records := s.tables.records.set n.val
                    { s.tables.records[n.val] with committed := some ⟨w, s.tables.records[n.val].staged⟩ } } })
      ∧ (∀ n : Fin 16, ReachesItem (.curve n) 0 s →
          exec (.curveCommit m n w) s = .next
            { writtenAt (itemAddress s.setup (.curve n) 0) w s with
              tables :=
                { s.tables with
                  curves := s.tables.curves.set n.val
                    { s.tables.curves[n.val] with committed := some ⟨w, s.tables.curves[n.val].staged⟩ } } })
      ∧ ∀ n : Fin 16, ReachesItem (.window n) 0 s →
          exec (.windowCommit m n w) s = .next
            { writtenAt (itemAddress s.setup (.window n) 0) w s with
              tables :=
                { s.tables with
                  windows := s.tables.windows.set n.val
                    { s.tables.windows[n.val] with committed := some ⟨w, s.tables.windows[n.val].staged⟩ } } }

/-- R46, R47, R49 to R52, R54: a captured slot commit takes the slot out of the ordered list, and then marks it INVALID; or
CONFLICT with FAULT START_RANGE, or with FAULT DUP_START when another entry holds its start frame; or puts it back as LISTED
with its fields, in start-frame order. -/
def Obligations.SlotCommitPlacesTheSlot : Prop :=
  ∀ (m : Master) (i : Fin 512) (w : Word) (s : State) (removed : List Entry) (st : Vector Word 3) (t : State), PortOpen s →
    ReachesItem (.slot i) 0 s → OrderedListSound s → removed = s.gradeList.ordered.filter (fun e => decide (e.slot ≠ i)) →
      st = s.tables.slots[i.val].staged →
      t = { writtenAt (itemAddress s.setup (.slot i) 0) w s with
            tables := { s.tables with
              slots := s.tables.slots.set i.val { staged := st, committed := some ⟨w, st⟩ } } } →
        (w.getLsbD 31 = false →
            exec (.slotCommit m i w) s = .next
              { t with gradeList := { status := s.gradeList.status.set i.val .invalid, ordered := removed } })
          ∧ (w.getLsbD 31 = true → ¬ (0 ≤ (w.extractLsb' 0 24).toInt ∧ (w.extractLsb' 0 24).toInt ≤ 999999) →
              exec (.slotCommit m i w) s = .next
                (stage (.fault (.startRange i))
                  { t with gradeList := { status := s.gradeList.status.set i.val .conflict, ordered := removed } }))
          ∧ (w.getLsbD 31 = true → 0 ≤ (w.extractLsb' 0 24).toInt → (w.extractLsb' 0 24).toInt ≤ 999999 →
              (∀ h ∈ removed, h.fields.start = (w.extractLsb' 0 24).toInt →
                  exec (.slotCommit m i w) s = .next
                    (stage (.fault (.dupStart i h.slot))
                      { t with gradeList := { status := s.gradeList.status.set i.val .conflict, ordered := removed } }))
                ∧ ((∀ h ∈ removed, h.fields.start ≠ (w.extractLsb' 0 24).toInt) →
                    ∃ l : List Entry,
                      exec (.slotCommit m i w) s = .next
                          { t with gradeList := { status := s.gradeList.status.set i.val .listed, ordered := l } }
                        ∧ l.Pairwise (fun a b => a.fields.start < b.fields.start)
                        ∧ ∀ e, e ∈ l ↔ e ∈ removed ∨ e =
                            { slot := i
                              fields :=
                                { start := (w.extractLsb' 0 24).toInt
                                  grade := Fin.ofNat 256 (st[0].extractLsb' 0 8).toNat
                                  profile := Fin.ofNat 32 (st[0].extractLsb' 8 5).toNat
                                  dissolve := (st[0].extractLsb' 16 8).toNat
                                  window :=
                                    if st[1].getLsbD 31 then some (Fin.ofNat 16 (st[1].extractLsb' 0 4).toNat) else none
                                  windowGrade :=
                                    if st[1].getLsbD 31 = true ∧ st[1].getLsbD 30 = true then
                                      some (Fin.ofNat 256 (st[1].extractLsb' 8 8).toNat)
                                    else none
                                  holdScd := st[0].getLsbD 31 } }))

/-! ## The reload engine and the memory port -/

/-- R6, R7, R22, R196: the first read of an item replaces its staged words with the words of memory, 0 for a word past the
store, and requests the item's second read; where word 0 is past the store, that second read is not issued and completes in
the same event. Then the transactions that waited for the read are forwarded, the oldest first (assumption 10, DEDUCED). -/
def Obligations.FirstReadStagesTheItem : Prop :=
  ∀ (ref : ItemRef) (s t : State) (word : Nat → Word), s.port.inProgress = some (.reload (.item ref .rest) false) →
      (∀ o, word o =
        if itemAddress s.setup ref o < Config.storeBytes then readWord s.store (itemAddress s.setup ref o) else 0) →
      t = { s with
            tables :=
              match ref with
              | .slot n =>
                  { s.tables with
                    slots := s.tables.slots.set n.val
                      { s.tables.slots[n.val] with staged := Vector.ofFn fun b => word (b.val + 1) } }
              | .record n =>
                  { s.tables with
                    records := s.tables.records.set n.val
                      { s.tables.records[n.val] with staged := Vector.ofFn fun b => word (b.val + 1) } }
              | .curve n =>
                  { s.tables with
                    curves := s.tables.curves.set n.val
                      { s.tables.curves[n.val] with staged := Vector.ofFn fun b => word (b.val + 1) } }
              | .window n =>
                  { s.tables with
                    windows := s.tables.windows.set n.val
                      { s.tables.windows[n.val] with staged := Vector.ofFn fun b => word (b.val + 1) } } } →
        (inStore (itemAddress s.setup ref 0) = true →
            exec .reloadReadComplete s = .next (forwardedInOrder s.port.waiting
              { t with port := { s.port with
                  inProgress := none, waiting := [], reloadRequest := some (.item ref .word0) } }))
          ∧ (inStore (itemAddress s.setup ref 0) = false →
              exec .reloadReadComplete s =
                exec .reloadReadComplete
                  { t with port := { s.port with inProgress := some (.reload (.item ref .word0) false) } })

/-- R6, R7, R20, R22, R24, R47, R196: the second read commits the item with the word that memory returns, 0 past the store:
the staged words with that word 0 become the committed copy, and a slot goes to the GLI as a reload commit. The table's index
moves to the next item, and after the last item its pending mark is cleared. Then the first read of the next item of the first
pending table in the fixed order is requested, be it the same table, an earlier one made pending meanwhile or a later one; a
first read with no word in the store is not issued and completes in the same event; and with no table pending the part leaves
LOADING, to ACTIVE or to STANDBY as ENABLE says. Last, the transactions that waited for the read are forwarded, the oldest
first (assumption 10, DEDUCED). -/
def Obligations.SecondReadCommitsTheItem : Prop :=
  (∀ (r : PerTable TableProgress) (pre post : List TableId) (t : TableId),
      [.gradeList, .records, .curves, .windows] = pre ++ t :: post → (∀ q ∈ pre, (r.get q).pending = false) →
        (r.get t).pending = true → firstPending r = some (itemAt t (r.get t).next))
    ∧ (∀ r : PerTable TableProgress, (∀ q, (r.get q).pending = false) → firstPending r = none)
    ∧ ∀ (ref : ItemRef) (s c : State) (w : Word) (f : SlotFields) (progress : PerTable TableProgress),
      s.port.inProgress = some (.reload (.item ref .word0) false) →
      s.port.reloadRequest = none → s.partState = .loading →
      progress = s.reload.set ref.table
        { pending := decide (ref.index + 1 < ref.table.count), next := ref.index + 1 } →
      w = (if itemAddress s.setup ref 0 < Config.storeBytes then readWord s.store (itemAddress s.setup ref 0) else 0) →
      (∀ (i : Fin 512) (st : Vector Word 3), ref = .slot i → st = s.tables.slots[i.val].staged →
        f = { start := (w.extractLsb' 0 24).toInt
              grade := Fin.ofNat 256 (st[0].extractLsb' 0 8).toNat
              profile := Fin.ofNat 32 (st[0].extractLsb' 8 5).toNat
              dissolve := (st[0].extractLsb' 16 8).toNat
              window := if st[1].getLsbD 31 then some (Fin.ofNat 16 (st[1].extractLsb' 0 4).toNat) else none
              windowGrade :=
                if st[1].getLsbD 31 = true ∧ st[1].getLsbD 30 = true then
                  some (Fin.ofNat 256 (st[1].extractLsb' 8 8).toNat)
                else none
              holdScd := st[0].getLsbD 31 }) →
      c = (match ref with
        | .slot i =>
            (match (s.gradeList.commit true i (w.getLsbD 31) f).2 with
              | none => id
              | some fault => stage (.fault fault))
              { s with
                tables := { s.tables with
                  slots := s.tables.slots.set i.val
                    { s.tables.slots[i.val] with committed := some ⟨w, s.tables.slots[i.val].staged⟩ } }
                gradeList := (s.gradeList.commit true i (w.getLsbD 31) f).1 }
        | .record n =>
            { s with tables := { s.tables with
                records := s.tables.records.set n.val
                  { s.tables.records[n.val] with committed := some ⟨w, s.tables.records[n.val].staged⟩ } } }
        | .curve n =>
            { s with tables := { s.tables with
                curves := s.tables.curves.set n.val
                  { s.tables.curves[n.val] with committed := some ⟨w, s.tables.curves[n.val].staged⟩ } } }
        | .window n =>
            { s with tables := { s.tables with
                windows := s.tables.windows.set n.val
                  { s.tables.windows[n.val] with committed := some ⟨w, s.tables.windows[n.val].staged⟩ } } }) →
        (∀ next : ItemRef, firstPending progress = some next →
            (itemAddress s.setup next 1 < Config.storeBytes →
                exec .reloadReadComplete s = .next (forwardedInOrder s.port.waiting
                  { c with
                    reload := progress
                    port := { s.port with
                      inProgress := none, waiting := [], reloadRequest := some (.item next .rest) } }))
              ∧ (Config.storeBytes ≤ itemAddress s.setup next 1 →
                  exec .reloadReadComplete s =
                    exec .reloadReadComplete
                      { c with
                        reload := progress
                        port := { s.port with inProgress := some (.reload (.item next .rest) false) } }))
          ∧ (firstPending progress = none →
              exec .reloadReadComplete s = .next (forwardedInOrder s.port.waiting
                { c with
                  partState := if s.setup.enable then .active else .standby
                  reload := progress
                  port := { s.port with inProgress := none, waiting := [] } }))

/-- R6, R7, R12, R19, R20, R23, R196: a read whose words are to be discarded installs nothing. With a table pending, the first
read of its next item is requested, or, with no word in the store, completes in the same event; with no table pending nothing
is requested, and the part leaves LOADING if it is in it. Last, the transactions that waited for the read are forwarded, the
oldest first (assumption 10, DEDUCED). -/
def Obligations.DiscardedReadInstallsNothing : Prop :=
  ∀ (ref : ItemRef) (part : ItemPart) (s : State), s.port.inProgress = some (.reload (.item ref part) true) →
    s.port.reloadRequest = none →
      (∀ next : ItemRef, firstPending s.reload = some next →
          (partInStore s.setup next .rest = true →
              exec .reloadReadComplete s = .next (forwardedInOrder s.port.waiting
                { s with port := { s.port with
                    inProgress := none, waiting := [], reloadRequest := some (.item next .rest) } }))
            ∧ (partInStore s.setup next .rest = false →
                exec .reloadReadComplete s =
                  exec .reloadReadComplete
                    { s with port := { s.port with inProgress := some (.reload (.item next .rest) false) } }))
        ∧ (firstPending s.reload = none →
            exec .reloadReadComplete s = .next (forwardedInOrder s.port.waiting
              { s with
                partState :=
                  if s.partState = .loading then (if s.setup.enable then .active else .standby) else s.partState
                port := { s.port with inProgress := none, waiting := [] } }))

/-- R49 to R54: the GLI first removes the slot, and then marks it INVALID when valid is 0, or CONFLICT with FAULT START_RANGE
when its start frame is out of range, or lists it in start-frame order when no entry holds its start frame. A reload commit
whose start frame a higher-numbered slot holds displaces the holder, which becomes CONFLICT; the slot is listed in its place,
and the fault names the holder first. A commit whose start frame a lower-numbered slot holds loses. -/
def Obligations.ReloadCommitKeepsTheLowestSlot : Prop :=
  ∀ (g : GradeList) (i : Fin 512) (f : SlotFields) (removed : List Entry),
    g.ordered.Pairwise (fun a b => a.fields.start < b.fields.start) →
      removed = g.ordered.filter (fun e => decide (e.slot ≠ i)) →
        (∀ byReload : Bool,
            g.commit byReload i false f = ({ status := g.status.set i.val .invalid, ordered := removed }, none)
              ∧ (¬ (0 ≤ f.start ∧ f.start ≤ 999999) →
                  g.commit byReload i true f =
                    ({ status := g.status.set i.val .conflict, ordered := removed }, some (.startRange i)))
              ∧ (0 ≤ f.start → f.start ≤ 999999 → (∀ h ∈ removed, h.fields.start ≠ f.start) →
                  ∃ l : List Entry,
                    g.commit byReload i true f = ({ status := g.status.set i.val .listed, ordered := l }, none)
                      ∧ l.Pairwise (fun a b => a.fields.start < b.fields.start)
                      ∧ ∀ e, e ∈ l ↔ e ∈ removed ∨ e = { slot := i, fields := f }))
          ∧ ∀ h : Entry, h ∈ removed → h.fields.start = f.start → 0 ≤ f.start → f.start ≤ 999999 →
            (i.val < h.slot.val →
                (g.commit true i true f).2 = some (.dupStart h.slot i)
                  ∧ (g.commit true i true f).1.status = (g.status.set h.slot.val .conflict).set i.val .listed
                  ∧ (g.commit true i true f).1.ordered.Pairwise (fun a b => a.fields.start < b.fields.start)
                  ∧ ∀ e, e ∈ (g.commit true i true f).1.ordered ↔
                      (e ∈ removed ∧ e.slot ≠ h.slot) ∨ e = { slot := i, fields := f })
              ∧ (h.slot.val < i.val →
                  (g.commit true i true f).2 = some (.dupStart i h.slot)
                    ∧ (g.commit true i true f).1 =
                        { status := g.status.set i.val .conflict, ordered := removed })

/-- R6: with the port free and no transaction waiting, a waiting reload read is issued, or else a waiting report write with
the words it then carries; an own access in progress, or a waiting transaction, holds both back. With nothing requested an
issue changes nothing (assumption 9, DESIGN CHOICE). -/
def Obligations.ArbiterIssuesReloadBeforeReport : Prop :=
  ∀ s : State,
    (s.port.inProgress = none → s.port.waiting = [] →
        (∀ r, s.port.reloadRequest = some r →
            exec .ownAccessIssue s = .next
              { s with port := { s.port with reloadRequest := none, inProgress := some (.reload r false) } })
          ∧ (s.port.reloadRequest = none →
              (∀ w, s.port.reportRequest = some w →
                  exec .ownAccessIssue s = .next
                    { s with port := { s.port with
                        reportRequest := none, inProgress := some (.report w (reportCells w s) false) } })
                ∧ (s.port.reportRequest = none → exec .ownAccessIssue s = .next s)))
      ∧ ((s.port.inProgress ≠ none ∨ s.port.waiting ≠ []) → exec .ownAccessIssue s = .next s)

/-! ## Picture words -/

/-- R17, R88, R100: a picture word at an offset other than 0 of a buffer that is not the open frame's is an orphan in ACTIVE:
it passes, and the orphan count rises and stays at 16,777,215. In STANDBY and LOADING a picture word in a buffer passes
uncounted, and so does a picture word that belongs to no window. -/
def Obligations.OrphanWordsPassAndCount : Prop :=
  ∀ (a : BitVec 24) (p : Rgb (BitVec 10)) (s : State) (c : State), PortOpen s →
    c = { s with store := writeWord s.store (4 * a.toNat) (pictureWordOf p) } →
      (∀ b o, classify s (4 * a.toNat) = .buffer b o → s.partState = .active → o ≠ 0 →
          (∀ f, s.tracker.openFrame = some f → f.buffer ≠ b) →
            exec (.pictureWord a p) s = .next
              { c with tracker := { s.tracker with orphans := min (s.tracker.orphans + 1) 16777215 } })
        ∧ (∀ b o, classify s (4 * a.toNat) = .buffer b o → s.partState ≠ .active →
            exec (.pictureWord a p) s = .next c)
        ∧ (classify s (4 * a.toNat) = .plain ∨ classify s (4 * a.toNat) = .ring →
            exec (.pictureWord a p) s = .next c)

/-- R89, R95, R97, R104, R149, R150: a picture word of the open frame at an offset other than 0 reaches memory as the value
that its frame gives it, after the legal clamp; words graded rises, a clip count rises where the clamp acted, and a word that
is not substituted adds its stage-1 luma to its cell, one of 24 columns and 16 rows. After the word at the last offset the
frame closes COMPLETE. What value a frame gives a word is stated with the pipeline. -/
def Obligations.OpenFrameWordsAreGraded : Prop :=
  ∀ (a : BitVec 24) (p : Rgb (BitVec 10)) (b : Fin 4) (o x y : Nat) (f : OpenFrame) (v : Rgb Int) (s t : State), PortOpen s →
    ∀ cell : Option Nat, cell =
        (if x < 24 * (s.setup.width / 24) ∧ y < 16 * (s.setup.height / 16) then
          some (y / (s.setup.height / 16) * 24 + x / (s.setup.width / 24)) else none) →
    s.partState = .active → classify s (4 * a.toNat) = .buffer b o → o ≠ 0 → s.tracker.openFrame = some f → f.buffer = b →
      x = o % s.setup.width → y = o / s.setup.width → v = formedChannels f x y ⟨p.r.toNat, p.g.toNat, p.b.toNat⟩ s →
        t = { s with
          store := writeWord s.store (4 * a.toNat) (gradedWord (legalClamp f.setup v))
          tracker := { s.tracker with
            openFrame := some { f with
              wordsGraded := min (f.wordsGraded + 1) 16777215
              clipLow :=
                if f.setup.legalEnable = true ∧ (v.r < f.setup.legalLo ∨ v.g < f.setup.legalLo ∨ v.b < f.setup.legalLo)
                then min (f.clipLow + 1) 16777215 else f.clipLow
              clipHigh :=
                if f.setup.legalEnable = true ∧ (f.setup.legalHi < v.r ∨ f.setup.legalHi < v.g ∨ f.setup.legalHi < v.b)
                then min (f.clipHigh + 1) 16777215 else f.clipHigh } }
          detector := { s.detector with
            sums :=
              if f.substitution = .none then
                (match cell with
                  | some c => s.detector.sums.setIfInBounds c
                      (min ((s.detector.sums[c]?).getD 0
                        + (luma (profileStage s.lanes.incoming.held.values ⟨p.r.toNat, p.g.toNat, p.b.toNat⟩)).toNat) 16777215)
                  | none => s.detector.sums)
              else s.detector.sums } } →
          (o + 1 ≠ s.setup.width * s.setup.height → exec (.pictureWord a p) s = .next t)
            ∧ (o + 1 = s.setup.width * s.setup.height → exec (.pictureWord a p) s = .next (closeFrame true t))

/-- R42, R60, R78, R92 to R94, R101, R105, R130 to R132, R174: a picture word at offset 0 of a buffer in ACTIVE closes an open
frame TRUNCATED and opens a frame: its number is the frame number with the gate offset, bounded; it latches the setup values
and the lookup result; the IN lane latches and loads what the covering entry or the defaults name, and the OUT lane what the
outgoing entry names, or latches nothing; the mix is 256, the factor of a cached step, or the held one with a MIX request,
the waiting record and MIX_LATE; the sums are cleared; the CUE decision is taken; and the word is then graded as the frame's
first word, at column 0 and row 0, and alone in its cell. Nothing else changes. -/
def Obligations.OffsetZeroOpensAFrame : Prop :=
  ∀ (a : BitVec 24) (p : Rgb (BitVec 10)) (b : Fin 4) (s c : State) (l : Lookup), PortOpen s →
    s.partState = .active → classify s (4 * a.toNat) = .buffer b 0 → c = closeFrame false s →
    l = lookup (max (-99999) (min 999999 (s.footage.number + s.setup.gateOffset))) s.gradeList.ordered →
    ∀ (lane : Fin 256 → Option (Fin 16) → Option (Fin 256) → Fin 32 → HeldProfile → Lane × Bool × Bool × Bool)
      (i o : Lane × Bool × Bool × Bool),
    (∀ record window windowRecord n h, lane record window windowRecord n h =
        ({ latch := some (latchLane s.tables record window windowRecord).1, held := (loadProfile s.profiles n h).held },
         (latchLane s.tables record window windowRecord).2, (loadProfile s.profiles n h).profileHeld,
         (loadProfile s.profiles n h).profileBad)) →
    i = (match l with
      | .noEntry => lane s.setup.defaultRecord none none s.setup.defaultProfile s.lanes.incoming.held
      | .covered e _ => lane e.fields.grade e.fields.window e.fields.windowGrade e.fields.profile s.lanes.incoming.held
      | .dissolve e _ _ _ =>
          lane e.fields.grade e.fields.window e.fields.windowGrade e.fields.profile s.lanes.incoming.held) →
    o = (match l with
      | .noEntry => ({ s.lanes.outgoing with latch := none }, false, false, false)
      | .covered _ _ => ({ s.lanes.outgoing with latch := none }, false, false, false)
      | .dissolve _ _ e _ =>
          lane e.fields.grade e.fields.window e.fields.windowGrade e.fields.profile s.lanes.outgoing.held) →
    ∀ (mix : MixStage) (divider : Divider) (late : Bool),
    (mix, divider, late) = (match l with
      | .noEntry => ({ c.mix with current := 256, waiting := none }, c.divider, false)
      | .covered _ _ => ({ c.mix with current := 256, waiting := none }, c.divider, false)
      | .dissolve e _ _ j =>
          if ∃ q, c.mix.cache = some q ∧ q.length = e.fields.dissolve then
            ({ c.mix with current := (j * (c.mix.cache.getD ⟨0, 0⟩).step + 128) / 256, waiting := none }, c.divider, false)
          else
            ({ c.mix with waiting := some { length := e.fields.dissolve, j := j } },
             c.divider.request .mix 65536 (e.fields.dissolve + 1), true)) →
    ∀ (f : OpenFrame) (v : Rgb Int),
    f = { buffer := b, number := max (-99999) (min 999999 (s.footage.number + s.setup.gateOffset))
          transport := s.footage.transport, direction := s.footage.direction, speed := s.footage.speed.getD 0
          lookup := l, setup := s.setup.frame
          substitution :=
            (match s.setup.frame.mode with
              | .off => .none
              | .flat => .flat
              | .bars => .bars
              | .leader =>
                  if max (-99999) (min 999999 (s.footage.number + s.setup.gateOffset)) < 0 then .flat else .none)
          wordsGraded := 0, clipLow := 0, clipHigh := 0
          flags :=
            { truncated := false, mixLate := late, profileHeld := i.2.2.1 || o.2.2.1, profileBad := i.2.2.2 || o.2.2.2
              gradeMissing := i.2.1 || o.2.1, noEntry := decide (l = .noEntry)
              substituted := decide (s.setup.frame.mode ≠ .off
                ∧ (s.setup.frame.mode = .leader → s.footage.number + s.setup.gateOffset < 0)) } } →
    v = formedChannels f 0 0 ⟨p.r.toNat, p.g.toNat, p.b.toNat⟩ { c with lanes := ⟨i.1, o.1⟩, mix := mix } →
      exec (.pictureWord a p) s = .next
        { c with
          store := writeWord s.store (4 * a.toNat) (gradedWord (legalClamp s.setup.frame v))
          lanes := ⟨i.1, o.1⟩
          mix := mix
          divider := divider
          footage := { c.footage with
            cue :=
              if l.atStart = true ∧ s.footage.transport = .running ∧ s.footage.direction = .forward
                  ∧ 1 ≤ s.setup.cueWidth
              then some { start := s.footage.clock, width := s.setup.cueWidth } else s.footage.cue }
          tracker := { c.tracker with
            openFrame := some { f with
              wordsGraded := 1
              clipLow :=
                if f.setup.legalEnable = true ∧ (v.r < f.setup.legalLo ∨ v.g < f.setup.legalLo ∨ v.b < f.setup.legalLo)
                then 1 else 0
              clipHigh :=
                if f.setup.legalEnable = true ∧ (f.setup.legalHi < v.r ∨ f.setup.legalHi < v.g ∨ f.setup.legalHi < v.b)
                then 1 else 0 } }
          detector := { c.detector with
            sums :=
              if f.substitution = .none ∧ 0 < s.setup.width / 24 ∧ 0 < s.setup.height / 16 then
                (Vector.replicate 384 0).set 0
                  (luma (profileStage i.1.held.values ⟨p.r.toNat, p.g.toNat, p.b.toNat⟩)).toNat
              else Vector.replicate 384 0 } }

/-- R41, R99, R106 to R108, R128, R187: a close judges the frame, stages its summary when SUMMARY enable was latched, clears
the orphan, glitch and lost counts if the summary is kept, empties the waiting record and leaves no frame open; m_cur, the
step cache and the lanes stay. With no frame open a close does nothing. -/
def Obligations.CloseStagesTheSummary : Prop :=
  (∀ (complete : Bool) (s : State), s.tracker.openFrame = none → closeFrame complete s = s)
    ∧ ∀ (complete : Bool) (f : OpenFrame) (s c : State) (g : OpenFrame) (r : FrameSummary), s.tracker.openFrame = some f →
    g = { f with flags := { f.flags with truncated := f.flags.truncated || !complete } } →
      c = (judgeFrame g complete s).1 →
        r = { number := f.number, buffer := f.buffer, transport := f.transport, direction := f.direction
              inSlot := f.lookup.inEntry.map (·.slot), outSlot := f.lookup.outEntry.map (·.slot), j := f.lookup.position
              m := s.mix.current, wordsGraded := f.wordsGraded, orphans := s.tracker.orphans, clipLow := f.clipLow
              clipHigh := f.clipHigh, flags := g.flags, outcome := (judgeFrame g complete s).2, speed := f.speed
              glitches := s.footage.glitches, lost := c.ring.lost } →
          closeFrame complete s =
            { c with
              mix := { s.mix with waiting := none }
              tracker :=
                { openFrame := none
                  orphans := if f.setup.summaryEnable = true ∧ c.ring.queue.length < 8 then 0 else s.tracker.orphans }
              footage := { s.footage with
                glitches := if f.setup.summaryEnable = true ∧ c.ring.queue.length < 8 then 0 else s.footage.glitches }
              ring :=
                if f.setup.summaryEnable = true then
                  (if c.ring.queue.length < 8 then { c.ring with queue := c.ring.queue ++ [.frameSummary r], lost := 0 }
                   else { c.ring with lost := min (c.ring.lost + 1) 65535 })
                else c.ring }

/-- R152 to R164: at a close each cell's mean is floor(sum × recip / 16,777,216), at most 1,023, and a cell is changed when
its mean differs from the reference's by more than the cell threshold; the first condition that fails gives the reason the
frame is not judged; a judged frame's result follows from its changed cells, the hold-off and the recent cuts; a CUT stages
one record and is remembered; and the frame becomes the reference when it closed COMPLETE, unsubstituted and FORWARD with the
RECIP-valid mark set. -/
def Obligations.CloseJudgesTheFrame : Prop :=
  ∀ (f : OpenFrame) (complete : Bool) (s : State) (means : Vector Nat 384) (changed : Reference → Nat)
    (judged : Reference → CutResult) (o : DetectorOutcome),
    (∀ i : Fin 384, means[i.val] = min (s.detector.sums[i.val] * s.detector.recip.getD 0 / 16777216) 1023) →
      (∀ r, changed r =
        ((List.finRange 384).filter fun i : Fin 384 =>
          decide (f.setup.cellThreshold < ((means[i.val] : Int) - (r.means[i.val] : Int)).natAbs)).length) →
      (∀ r, judged r =
        if changed r < f.setup.frameThreshold then .noCut
        else if ∃ l, s.detector.lastCandidate = some l ∧ 0 < f.number - l ∧ f.number - l ≤ f.setup.holdoff then .holdoff
        else if f.number ∈ s.detector.recentCuts then .repeated
        else .cut) →
      o = (if f.setup.scdEnable = false then .notJudged .off
           else if complete = false then .notJudged .incomplete
           else if f.substitution ≠ .none then .notJudged .subst
           else if s.detector.recipValid = false then .notJudged .noRecip
           else if ¬ (f.transport = .running ∧ f.direction = .forward) then .notJudged .transport
           else if ¬ (f.speed ≠ 0 ∧ f.setup.speedLo ≤ f.speed ∧ f.speed ≤ f.setup.speedHi) then .notJudged .speed
           else if ∃ e, f.lookup.inEntry = some e ∧ e.fields.holdScd = true then .notJudged .hold
           else match s.detector.reference with
             | some r =>
                 if r.frame = f.number - 1 then
                   .judged (changed r) (judged r)
                 else .notJudged .noRef
             | none => .notJudged .noRef) →
        (judgeFrame f complete s).2 = o
          ∧ (judgeFrame f complete s).1 =
              { s with
                detector := { s.detector with
                  reference :=
                    if complete = true ∧ f.substitution = .none ∧ s.detector.recipValid = true ∧ f.direction = .forward
                    then some { means := means, frame := f.number } else s.detector.reference
                  lastCandidate :=
                    match o with
                    | .judged _ .cut => some f.number
                    | _ => s.detector.lastCandidate
                  recentCuts :=
                    match o with
                    | .judged _ .cut =>
                        (if 16 ≤ s.detector.recentCuts.length then s.detector.recentCuts.drop 1
                         else s.detector.recentCuts) ++ [f.number]
                    | _ => s.detector.recentCuts }
                ring :=
                  match o with
                  | .judged n .cut =>
                      (stage (.cut
                        { frame := f.number, changed := n
                          known := s.gradeList.ordered.any (fun e => decide (e.fields.start = f.number))
                          slot := f.lookup.inEntry.map (·.slot), speed := s.footage.speed.getD 0 }) s).ring
                  | _ => s.ring }

/-- R69 to R73, R78 to R80, R174: a lane latches the committed fields of a VALID record, and the identity grade with
GRADE_MISSING where the record is not VALID; each channel takes a copy of the 17 knots of the curve the record names for it,
and a named curve that is not VALID leaves the channel without one and sets GRADE_MISSING. A VALID window named together with
a window grade is latched with that record; a window that is not VALID sets GRADE_MISSING and latches nothing. A load keeps a
matching LOADED copy, keeps the held copy under PROFILE_HELD while the store is programming, takes the substitute with
PROFILE_BAD for an INCOMPLETE profile, and loads a COMPLETE one. -/
def Obligations.LanesLatchLoadOrSubstitute : Prop :=
  (∀ (x : Shadows) (r : Fin 256),
    ((x.records[r.val].committed = none ∨ ∃ c, x.records[r.val].committed = some c ∧ c.first.getLsbD 31 = false) →
        latchRecord x r =
          ({ lift := ⟨0, 0, 0⟩, gain := ⟨1024, 1024, 1024⟩, curve := ⟨none, none, none⟩, saturation := 256 }, true))
      ∧ ∀ (c : Committed 7) (curve : Nat → Nat → Option Curve), x.records[r.val].committed = some c →
          c.first.getLsbD 31 = true →
          (∀ present lo, curve present lo =
            if c.rest[3].getLsbD present = true then
              (match x.curves[(Fin.ofNat 16 (c.rest[3].extractLsb' lo 4).toNat).val].committed with
                | some k => if k.first.getLsbD 31 = true then some k.knots else none
                | none => none)
            else none) →
          (latchRecord x r).1 =
              { lift := ⟨(c.rest[0].extractLsb' 16 10).toInt, (c.rest[1].extractLsb' 16 10).toInt,
                  (c.rest[2].extractLsb' 16 10).toInt⟩
                gain := ⟨(c.rest[0].extractLsb' 0 12).toNat, (c.rest[1].extractLsb' 0 12).toNat,
                  (c.rest[2].extractLsb' 0 12).toNat⟩
                curve := ⟨curve 7 0, curve 15 8, curve 23 16⟩
                saturation := (c.first.extractLsb' 0 9).toNat }
            ∧ ((latchRecord x r).2 = true ↔
                c.rest[3].getLsbD 7 = true ∧ curve 7 0 = none ∨ c.rest[3].getLsbD 15 = true ∧ curve 15 8 = none
                  ∨ c.rest[3].getLsbD 23 = true ∧ curve 23 16 = none))
    ∧ (∀ k : Committed 16, k.knots[0] = (k.first.extractLsb' 0 10).toNat
        ∧ ∀ i : Fin 16, k.knots[i.val + 1] = (k.rest[i.val].extractLsb' 0 10).toNat)
    ∧ (∀ (x : Shadows) (w : Fin 16) (g : Fin 256) (grade : Option (Fin 256)),
        latchWindow x none grade = (none, false) ∧ latchWindow x (some w) none = (none, false)
          ∧ ((x.windows[w.val].committed = none
                ∨ ∃ c, x.windows[w.val].committed = some c ∧ c.first.getLsbD 31 = false) →
              latchWindow x (some w) (some g) = (none, true))
          ∧ ∀ c, x.windows[w.val].committed = some c → c.first.getLsbD 31 = true →
              latchWindow x (some w) (some g) =
                (some
                  { rect :=
                      { left := (c.first.extractLsb' 0 11).toNat, top := (c.rest[0].extractLsb' 0 12).toNat
                        width := (c.rest[1].extractLsb' 0 12).toNat, height := (c.rest[2].extractLsb' 0 12).toNat }
                    grade := (latchRecord x g).1 },
                 (latchRecord x g).2))
    ∧ (∀ (x : Shadows) (r : Fin 256) (w : Option (Fin 16)) (g : Option (Fin 256)),
        latchLane x r w g =
          ({ main := (latchRecord x r).1, window := (latchWindow x w g).1 },
           (latchRecord x r).2 || (latchWindow x w g).2))
    ∧ ∀ (p : ProfileStore) (n : Fin 32) (h : HeldProfile),
        loadProfile p n h =
          if h.kind = .loaded ∧ h.number = some n then { held := h, profileHeld := false, profileBad := false }
          else if p.operation ≠ none then { held := h, profileHeld := true, profileBad := false }
          else if p.profiles[n.val].mark = .incomplete then
            { held := { number := some n, kind := .substitute, values := ⟨false, ⟨0, 0, 0⟩, ⟨1024, 1024, 1024⟩⟩ }
              profileHeld := false, profileBad := true }
          else
            { held := { number := some n, kind := .loaded, values := p.profiles[n.val].values }
              profileHeld := false, profileBad := false }

/-! ## Transport -/

/-- R21, R25, R26: an edge that arrives less than perf guard µs after the last accepted one, while the transport runs, only
raises the glitch count, which stays at 65,535. Under RST an edge does nothing. -/
def Obligations.GuardedEdgesAreGlitches : Prop :=
  ∀ (dir : Direction) (s : State),
    (s.resetAsserted = true → exec (.perfEdge dir) s = .next s)
      ∧ ∀ t, s.resetAsserted = false → s.footage.transport = .running → s.footage.lastEdge = some t →
          (s.footage.clock - t).toNat < s.setup.perfGuard →
            exec (.perfEdge dir) s = .next
              { s with footage := { s.footage with glitches := min (s.footage.glitches + 1) 65535 } }

/-- R25, R27 to R29, R32, R33, R35 to R38: an accepted edge counts in the sampled direction or is held at a limit, captures
the counter and forms the interval, sets the transport RUNNING and the direction, stages one TRANSPORT record for a start, a
reversal or a first held edge, has the reference discarded on a start or a reversal, and requests SPEED when it changed the
frame number with a valid interval. -/
def Obligations.AcceptedEdgesCount : Prop :=
  ∀ (dir : Direction) (s : State) (held : Bool) (g : Footage) (causes : TransportCauses), s.resetAsserted = false →
    (s.footage.transport = .stopped ∨ s.footage.lastEdge = none
      ∨ ∃ t, s.footage.lastEdge = some t ∧ s.setup.perfGuard ≤ (s.footage.clock - t).toNat) →
    held = (match dir with
      | .forward => decide (s.footage.number = 999999 ∧ s.footage.phase = s.setup.ppf - 1)
      | .reverse => decide (s.footage.number = -99999 ∧ s.footage.phase = 0)) →
    g = { s.footage with
          number :=
            if held then s.footage.number
            else match dir with
              | .forward => if s.footage.phase + 1 = s.setup.ppf then s.footage.number + 1 else s.footage.number
              | .reverse => if s.footage.phase = 0 then s.footage.number - 1 else s.footage.number
          phase :=
            if held then s.footage.phase
            else match dir with
              | .forward => if s.footage.phase + 1 = s.setup.ppf then 0 else s.footage.phase + 1
              | .reverse => if s.footage.phase = 0 then s.setup.ppf - 1 else s.footage.phase - 1
          limit := held
          transport := .running
          direction := dir
          lastEdge := some s.footage.clock
          interval :=
            if s.footage.transport = .stopped then none
            else match s.footage.lastEdge with
              | some t => if (s.footage.clock - t).toNat = 0 then none else some (s.footage.clock - t).toNat
              | none => none } →
    causes = { start := decide (s.footage.transport = .stopped), stop := false
               reversal := decide (dir ≠ s.footage.direction), limit := held && !s.footage.limit } →
      exec (.perfEdge dir) s = .next
        { s with
          footage := g
          ring :=
            if causes.start = true ∨ causes.reversal = true ∨ causes.limit = true then
              (stage (.transport { causes := causes, transport := .running, direction := dir, number := g.number
                                   phase := g.phase }) s).ring
            else s.ring
          detector := { s.detector with
            reference := if causes.start = true ∨ causes.reversal = true then none else s.detector.reference }
          divider :=
            match g.interval with
            | some t =>
                if g.number ≠ s.footage.number then s.divider.request .speed 100000000 (t * s.setup.ppf) else s.divider
            | none => s.divider }

/-- R34, R36, R37, R39, R43, R179: each time-out takes effect when its time is up and not before. The stop limit stops the
transport, makes interval and speed invalid, stages a TRANSPORT record, has the reference discarded, and spoils every
outstanding SPEED request; the CUE pulse returns low; and the program time limit ends the operation TIMED_OUT, the profile
INCOMPLETE with what its cells then hold, which no statement fixes while a write is under way. An expiry that finds no
operation does nothing (R179). That a time-out command which is not yet due, or an end of the CUE pulse with no pulse, changes
nothing is assumption 9 (DESIGN CHOICE). -/
def Obligations.TimeOutsTakeEffectWhenDue : Prop :=
  ∀ s : State,
    (∀ t, s.footage.transport = .running → s.footage.lastEdge = some t →
        s.setup.stopLimit ≤ (s.footage.clock - t).toNat →
        exec .stopLimitExpiry s = .next
          { s with
            footage := { s.footage with transport := .stopped, interval := none, speed := none }
            ring := (stage (.transport
              { causes := ⟨false, true, false, false⟩, transport := .stopped, direction := s.footage.direction
                number := s.footage.number, phase := s.footage.phase }) s).ring
            detector := { s.detector with reference := none }
            divider := { s.divider with
              inProgress := s.divider.inProgress.map fun v =>
                if v.client = .speed then { v with request := { v.request with stopped := true } } else v
              speed := s.divider.speed.map fun r => { r with stopped := true } } })
      ∧ ((s.footage.transport = .stopped
            ∨ ∃ t, s.footage.lastEdge = some t ∧ (s.footage.clock - t).toNat < s.setup.stopLimit) →
          exec .stopLimitExpiry s = .next s)
      ∧ (s.footage.cue = none → exec .cuePulseEnd s = .next s)
      ∧ (s.profiles.operation = none → exec .programTimeout s = .next s)
      ∧ (∀ c, s.footage.cue = some c →
          (c.width ≤ (s.footage.clock - c.start).toNat →
              exec .cuePulseEnd s = .next { s with footage := { s.footage with cue := none } })
            ∧ ((s.footage.clock - c.start).toNat < c.width → exec .cuePulseEnd s = .next s))
      ∧ ∀ op, s.profiles.operation = some op →
          (op.limit ≤ (s.footage.clock - op.acceptedAt).toNat →
              ∃ v : ProfileValues, (op.phase = .verifying → v = s.profiles.profiles[op.number.val].values)
                ∧ exec .programTimeout s = .next
                  (stage (.profileProgrammed op.number .timedOut)
                    { s with
                      freeCount := s.freeCount + 1
                      profiles :=
                        { profiles := s.profiles.profiles.set op.number.val
                            { s.profiles.profiles[op.number.val] with values := v }
                          operation := none } }))
            ∧ ((s.footage.clock - op.acceptedAt).toNat < op.limit → exec .programTimeout s = .next s)

/-! ## The divider -/

/-- R39, R129, R133, R138 to R141, R144: a request begins at once in an idle divider, and otherwise replaces what its client's
slot holds. A division that completes hands its exact quotient to its client, and the waiting
request of the highest client begins, MIX before RECIP before SPEED. MIX fills the step cache and serves a waiting record of
the same N; RECIP is taken for the geometry in use alone; SPEED is taken, bounded at 65,535, while the transport runs and no
stop came between. With no division in progress nothing changes (assumption 9, DESIGN CHOICE). -/
def Obligations.DivisionsServeTheirClients : Prop :=
  (∀ (d : Divider) (c : Client) (dividend divisor : Nat),
      (d.inProgress = none →
          d.request c dividend divisor = { d with inProgress := some { client := c, request := ⟨dividend, divisor, false⟩ } })
        ∧ (d.inProgress ≠ none →
            d.request c dividend divisor =
              (match c with
                | .mix => { d with mix := some ⟨dividend, divisor, false⟩ }
                | .recip => { d with recip := some ⟨dividend, divisor, false⟩ }
                | .speed => { d with speed := some ⟨dividend, divisor, false⟩ })))
    ∧ ∀ (s : State) (d : Divider),
    d = (match s.divider.mix, s.divider.recip, s.divider.speed with
      | some r, _, _ => { s.divider with inProgress := some { client := .mix, request := r }, mix := none }
      | none, some r, _ => { s.divider with inProgress := some { client := .recip, request := r }, recip := none }
      | none, none, some r => { s.divider with inProgress := some { client := .speed, request := r }, speed := none }
      | none, none, none => { s.divider with inProgress := none }) →
      (s.divider.inProgress = none → exec .divisionComplete s = .next s)
        ∧ ∀ (v : Division) (q : Nat), s.divider.inProgress = some v → q = v.request.dividend / v.request.divisor →
            (v.client = .mix →
                exec .divisionComplete s = .next
                  { s with
                    divider := d
                    mix :=
                      match s.mix.waiting with
                      | some w =>
                          if w.length = v.request.divisor - 1 then
                            { current := (w.j * q + 128) / 256
                              cache := some { length := v.request.divisor - 1, step := q }, waiting := none }
                          else { s.mix with cache := some { length := v.request.divisor - 1, step := q } }
                      | none => { s.mix with cache := some { length := v.request.divisor - 1, step := q } } })
              ∧ (v.client = .recip →
                  exec .divisionComplete s = .next
                    { s with
                      divider := d
                      detector :=
                        if v.request.divisor = s.setup.width / 24 * (s.setup.height / 16) then
                          { s.detector with recip := some q, recipValid := true }
                        else s.detector })
              ∧ (v.client = .speed →
                  exec .divisionComplete s = .next
                    { s with
                      divider := d
                      footage :=
                        if s.footage.transport = .running ∧ v.request.stopped = false then
                          { s.footage with speed := some (min q 65535) }
                        else s.footage })

/-! ## The profile store -/

/-- R179, R183: a completed write of cells leaves in each cell the operation's value or what stood there, as the event says,
and a verify follows; a verify that finds the seven values agree ends the operation VERIFIED with the profile COMPLETE and a
PROFILE record; one that finds a difference has the values written again. That the cells which took their value are the
event's operand is assumption 23 (DESIGN CHOICE), and that a verify while cells are written changes nothing is assumption 9
(DESIGN CHOICE). -/
def Obligations.ProgrammingWritesAndVerifies : Prop :=
  ∀ (s : State) (op : Programming), s.profiles.operation = some op →
    (op.phase = .writing →
        (∀ took : BitVec 67, ∃ v : ProfileValues,
            exec (.cellWriteComplete took) s = .next
              { s with
                profiles :=
                  { profiles := s.profiles.profiles.set op.number.val
                      { s.profiles.profiles[op.number.val] with values := v }
                    operation := some { op with phase := .verifying } } }
              ∧ v.invert = (if took.getLsbD 66 then op.values.invert else s.profiles.profiles[op.number.val].values.invert)
              ∧ (∀ i : Nat, i < 10 → v.base.r.getLsbD i =
                  if took.getLsbD (56 + i) then op.values.base.r.getLsbD i
                  else s.profiles.profiles[op.number.val].values.base.r.getLsbD i)
              ∧ (∀ i : Nat, i < 10 → v.base.g.getLsbD i =
                  if took.getLsbD (46 + i) then op.values.base.g.getLsbD i
                  else s.profiles.profiles[op.number.val].values.base.g.getLsbD i)
              ∧ (∀ i : Nat, i < 10 → v.base.b.getLsbD i =
                  if took.getLsbD (36 + i) then op.values.base.b.getLsbD i
                  else s.profiles.profiles[op.number.val].values.base.b.getLsbD i)
              ∧ (∀ i : Nat, i < 12 → v.scale.r.getLsbD i =
                  if took.getLsbD (24 + i) then op.values.scale.r.getLsbD i
                  else s.profiles.profiles[op.number.val].values.scale.r.getLsbD i)
              ∧ (∀ i : Nat, i < 12 → v.scale.g.getLsbD i =
                  if took.getLsbD (12 + i) then op.values.scale.g.getLsbD i
                  else s.profiles.profiles[op.number.val].values.scale.g.getLsbD i)
              ∧ (∀ i : Nat, i < 12 → v.scale.b.getLsbD i =
                  if took.getLsbD i then op.values.scale.b.getLsbD i
                  else s.profiles.profiles[op.number.val].values.scale.b.getLsbD i)
              ∧ (took = BitVec.allOnes 67 → v = op.values)
              ∧ (took = 0 → v = s.profiles.profiles[op.number.val].values))
          ∧ exec .profileVerify s = .next s)
      ∧ (op.phase = .verifying →
          (s.profiles.profiles[op.number.val].values = op.values →
              exec .profileVerify s = .next
                (stage (.profileProgrammed op.number .verified)
                  { s with
                    profiles :=
                      { profiles := s.profiles.profiles.set op.number.val { values := op.values, mark := .complete }
                        operation := none } }))
            ∧ (s.profiles.profiles[op.number.val].values ≠ op.values →
                exec .profileVerify s = .next
                  { s with profiles := { s.profiles with operation := some { op with phase := .writing } } }))

/-! ## The report ring -/

/-- R184, R188, R189: outside UNSET, with no record in flight, no publication pending and no report write outstanding, the
oldest staged record goes in flight when the free words are at least its length, and its first report write is requested: its
words up to the top of the ring; or, where none of those lies in the store, the words from offset 0 on; or, where none of
those does either, the head word alone (assumption 17, DEDUCED). A record that does not fit waits. The selection is a command
of its own (assumption 25, DESIGN CHOICE), and one that R188 does not allow changes nothing (assumption 9, DESIGN CHOICE). -/
def Obligations.OldestRecordGoesInFlight : Prop :=
  ∀ s : State,
    (∀ (r : Record) (rest : List Record), s.ring.queue = r :: rest → s.partState ≠ .unset →
      s.ring.inFlight = false → s.ring.publication = false → s.port.reportRequest = none →
      (∀ w cells d, s.port.inProgress ≠ some (.report w cells d)) →
        (r.length ≤ s.setup.ringSize - usedWords s →
            exec .recordSelect s = .next
              { s with
                ring := { s.ring with inFlight := true }
                port := { s.port with
                  reportRequest := some
                    (if s.setup.ringBase + 4 * s.ring.head.offset < Config.storeBytes
                          ∧ s.ring.head.offset < s.setup.ringSize then .recordWords
                     else if s.setup.ringBase < Config.storeBytes ∧ s.setup.ringSize - s.ring.head.offset < r.length then
                       .recordWrapped
                     else .recordHead) } })
          ∧ (s.setup.ringSize - usedWords s < r.length → exec .recordSelect s = .next s))
      ∧ ((s.ring.queue = [] ∨ s.partState = .unset ∨ s.ring.inFlight = true ∨ s.ring.publication = true
            ∨ s.port.reportRequest ≠ none ∨ ∃ w cells d, s.port.inProgress = some (.report w cells d)) →
          exec .recordSelect s = .next s)

/-- R6, R184, R185, R189, R192 to R194: a report write's words are in memory when it completes (assumption 15). After a
record's words come those past the top of the ring, if any, and then the head word; after the head word the committed head
advances by the record's length, the record leaves the queue and ATTN is set afresh; a publication clears its mark. A write
that nothing waits for any longer only has a pending publication requested (assumption 16, DEDUCED), and a write with no word
in the store is passed over (assumption 17, DEDUCED). Last, the transactions that waited for the write are forwarded, the
oldest first (assumption 10, DEDUCED). -/
def Obligations.ReportWritesFollowInOrder : Prop :=
  ∀ (w : ReportWrite) (cells : List (Nat × Word)) (withdrawn : Bool) (s c : State) (h : RingPointer),
    s.port.inProgress = some (.report w cells withdrawn) → s.port.reportRequest = none →
    c = { s with store := writeCells s.store cells, port := { s.port with inProgress := none, waiting := [] } } →
    (∀ r rest, s.ring.queue = r :: rest → h = s.ring.head.advance s.setup.ringSize r.length) →
      (withdrawn = true →
          exec .reportWriteComplete s = .next (forwardedInOrder s.port.waiting
            { c with port := { c.port with
                reportRequest :=
                  if s.ring.publication = true ∧ s.partState ≠ .unset then some .publication else none } }))
        ∧ (withdrawn = false → w = .recordWords →
            exec .reportWriteComplete s = .next (forwardedInOrder s.port.waiting
              { c with port := { c.port with
                  reportRequest := some (if reportCells .recordWrapped s = [] then .recordHead else .recordWrapped) } }))
        ∧ (withdrawn = false → w = .recordWrapped →
            exec .reportWriteComplete s = .next (forwardedInOrder s.port.waiting
              { c with port := { c.port with reportRequest := some .recordHead } }))
        ∧ (withdrawn = false → w = .recordHead → s.ring.queue ≠ [] →
            exec .reportWriteComplete s = .next (forwardedInOrder s.port.waiting
              { c with ring := { s.ring with
                  head := h, queue := s.ring.queue.tail, inFlight := false
                  attn := s.setup.attnEnable && decide (h ≠ s.ring.consumer) } }))
        ∧ (withdrawn = false → w = .publication →
            exec .reportWriteComplete s = .next (forwardedInOrder s.port.waiting
              { c with ring := { s.ring with publication := false } }))

/-- R186: a record joins a queue of fewer than 8 at its newest end; with 8 in the queue it is dropped and the lost count
rises, up to 65,535. Nothing else changes. -/
def Obligations.StagingKeepsEightRecords : Prop :=
  ∀ (r : Record) (s : State),
    stage r s = { s with
      ring :=
        if s.ring.queue.length < 8 then { s.ring with queue := s.ring.queue ++ [r] }
        else { s.ring with lost := min (s.ring.lost + 1) 65535 } }

/-- R184, R185, R189, R201, R202: the used words follow from the offsets and the wrap bits; advancing the head by words that
are free adds them to the used words; a record's words, header first, go to the addresses of the ring from the head's offset
on, from offset 0 past its top; a record is 11 words for a FRAME_SUMMARY, 4 for a CUT, 3 for a TRANSPORT, 2 for a PROGRAM and 5
for a READ operation's PROFILE, and 3 or 4 for a FAULT with one or two detail words; each word is the sum of its fields at
their places, a value that no run holds being cut to its field (assumption 27, DESIGN CHOICE); and a pointer word reads back
as its pointer. -/
def Obligations.RingWordsLieInRingOrder : Prop :=
  (∀ s : State, s.ring.head.offset < s.setup.ringSize → s.ring.consumer.offset < s.setup.ringSize →
      (s.ring.head.wrap = s.ring.consumer.wrap → s.ring.consumer.offset ≤ s.ring.head.offset →
          usedWords s = s.ring.head.offset - s.ring.consumer.offset)
        ∧ (s.ring.head.wrap ≠ s.ring.consumer.wrap → s.ring.head.offset ≤ s.ring.consumer.offset →
            usedWords s = s.setup.ringSize - s.ring.consumer.offset + s.ring.head.offset)
        ∧ ∀ k, usedWords s + k ≤ s.setup.ringSize →
            ringDistance s.setup.ringSize s.ring.consumer (s.ring.head.advance s.setup.ringSize k) = usedWords s + k)
    ∧ (∀ (s : State) (r : Record) (rest : List Record), s.ring.queue = r :: rest →
        s.ring.head.offset < s.setup.ringSize → r.length ≤ s.setup.ringSize →
        s.setup.ringBase + 4 * s.setup.ringSize ≤ Config.storeBytes →
          reportCells .recordWords s ++ reportCells .recordWrapped s =
            r.words.zipIdx.map fun w =>
              (s.setup.ringBase + 4 * ((s.ring.head.offset + w.2) % s.setup.ringSize), w.1))
    ∧ (∀ r : Record, r.words.length = r.length
        ∧ r.length =
          (match r with
            | .frameSummary _ => 11
            | .cut _ => 4
            | .transport _ => 3
            | .profileProgrammed _ _ => 2
            | .profileRead _ _ => 5
            | .fault (.dupStart _ _) => 4
            | .fault (.startRange _) => 3
            | .fault (.partialSnoop _) => 3
            | .fault (.setupRange _) => 3
            | .fault (.consumerRange _ _) => 4
            | .fault (.programRefused _ _ _) => 4))
    ∧ (∀ (r : Record) (frameNumber : Int → Nat) (reverse : Direction → Nat) (running : TransportState → Nat)
        (slotAt : Option (Fin 512) → Nat → Nat → Nat),
        (∀ n, frameNumber n = (BitVec.ofInt 24 n).toNat) → reverse .forward = 0 → reverse .reverse = 1 →
        running .stopped = 0 → running .running = 1 → (∀ present lo, slotAt none present lo = 0) →
        (∀ i present lo, slotAt (some i) present lo = 2 ^ present + 2 ^ lo * i.val) →
          r.words.map BitVec.toNat =
            match r with
            | .frameSummary x =>
                [2 ^ 24 * 1 + 11,
                 2 ^ 31 * reverse x.direction + 2 ^ 30 * running x.transport + 2 ^ 24 * x.buffer.val
                   + frameNumber x.number,
                 slotAt x.inSlot 31 16 + slotAt x.outSlot 15 0,
                 2 ^ 16 * (x.m % 2 ^ 9) + x.j % 2 ^ 8,
                 x.wordsGraded % 2 ^ 24, x.orphans % 2 ^ 24, x.clipLow % 2 ^ 24, x.clipHigh % 2 ^ 24,
                 (match x.outcome with
                   | .judged n .noCut => 2 ^ 31 + 2 ^ 28 * 0 + 2 ^ 16 * (n % 2 ^ 9)
                   | .judged n .holdoff => 2 ^ 31 + 2 ^ 28 * 1 + 2 ^ 16 * (n % 2 ^ 9)
                   | .judged n .repeated => 2 ^ 31 + 2 ^ 28 * 2 + 2 ^ 16 * (n % 2 ^ 9)
                   | .judged n .cut => 2 ^ 31 + 2 ^ 28 * 3 + 2 ^ 16 * (n % 2 ^ 9)
                   | .notJudged .off => 2 ^ 28 * 0
                   | .notJudged .incomplete => 2 ^ 28 * 1
                   | .notJudged .subst => 2 ^ 28 * 2
                   | .notJudged .noRecip => 2 ^ 28 * 3
                   | .notJudged .transport => 2 ^ 28 * 4
                   | .notJudged .speed => 2 ^ 28 * 5
                   | .notJudged .hold => 2 ^ 28 * 6
                   | .notJudged .noRef => 2 ^ 28 * 7)
                   + (x.flags.truncated.toNat + 2 * x.flags.mixLate.toNat + 4 * x.flags.profileHeld.toNat
                     + 8 * x.flags.profileBad.toNat + 16 * x.flags.gradeMissing.toNat + 32 * x.flags.noEntry.toNat
                     + 64 * x.flags.substituted.toNat),
                 2 ^ 16 * (x.glitches % 2 ^ 16) + x.speed % 2 ^ 16,
                 x.lost % 2 ^ 16]
            | .cut x =>
                [2 ^ 24 * 2 + 4, 2 ^ 31 * x.known.toNat + frameNumber x.frame,
                 slotAt x.slot 31 0 + 2 ^ 16 * (x.changed % 2 ^ 9), x.speed % 2 ^ 16]
            | .transport x =>
                [2 ^ 24 * 3 + 3,
                 2 ^ 31 * reverse x.direction + 2 ^ 30 * running x.transport + 2 ^ 8 * (x.phase % 4)
                   + (x.causes.start.toNat + 2 * x.causes.stop.toNat + 4 * x.causes.reversal.toNat
                     + 8 * x.causes.limit.toNat),
                 frameNumber x.number]
            | .profileProgrammed n .verified => [2 ^ 24 * 4 + 2, n.val]
            | .profileProgrammed n .timedOut => [2 ^ 24 * 4 + 2, 2 ^ 8 * 1 + n.val]
            | .profileRead n x =>
                [2 ^ 24 * 4 + 5, 2 ^ 31 + 2 ^ 8 * 2 + n.val,
                 2 ^ 31 * x.values.invert.toNat + 2 ^ 20 * x.values.base.r.toNat + 2 ^ 10 * x.values.base.g.toNat
                   + x.values.base.b.toNat,
                 2 ^ 16 * x.values.scale.g.toNat + x.values.scale.r.toNat,
                 2 ^ 31 * (if x.mark = .complete then 1 else 0) + x.values.scale.b.toNat]
            | .fault (.dupStart loser holder) => [2 ^ 24 * 5 + 4, 1, loser.val, holder.val]
            | .fault (.startRange slot) => [2 ^ 24 * 5 + 3, 2, slot.val]
            | .fault (.partialSnoop address) => [2 ^ 24 * 5 + 3, 3, address % 2 ^ 26]
            | .fault (.setupRange address) => [2 ^ 24 * 5 + 3, 4, address % 2 ^ 26]
            | .fault (.consumerRange written head) =>
                [2 ^ 24 * 5 + 4, 5, written.toNat, 2 ^ 31 * head.wrap.toNat + head.offset % 2 ^ 15]
            | .fault (.programRefused reason command n) =>
                [2 ^ 24 * 5 + 4, 6,
                 (match reason with | .notEnabled => 0 | .frameOpen => 1 | .running => 2 | .busy => 3),
                 2 ^ 31 * (match command with | .program => 0 | .read => 1) + n.val])
    ∧ ∀ p : RingPointer, p.offset < 32768 → pointerOf p.toWord = p

/-! ## Arithmetic and lookup -/

/-- R129: for every dissolve length N and position j, the step is floor(65,536 / (N + 1)) and lies in 256 to 32,768, the mix
factor is floor((j × step + 128) / 256) and lies in 1 to 255, and it rises strictly with j. -/
def Obligations.MixFactorRisesWithin255 : Prop :=
  ∀ n j step : Nat, 1 ≤ n → n ≤ 255 → 1 ≤ j → j ≤ n → step = 65536 / (n + 1) →
    256 ≤ step ∧ step ≤ 32768 ∧ mixFactor j step = (j * step + 128) / 256
      ∧ 1 ≤ mixFactor j step ∧ mixFactor j step ≤ 255 ∧ mixFactor j step < mixFactor (j + 1) step

/-- R60 to R64: on an ordered list, the covering entry is the one with the greatest start frame not above f, and there is none
exactly when every start frame is above f; the frame is in the entry's dissolve exactly when N is at least 1, f lies less than
N above the start frame, and the entry has a predecessor, which is then the OUT entry, with j counted from 1. -/
def Obligations.LookupFindsTheCoveringEntry : Prop :=
  ∀ (f : Int) (l : List Entry), l.Pairwise (fun a b => a.fields.start < b.fields.start) →
    ((lookup f l).inEntry = none ↔ ∀ e ∈ l, f < e.fields.start)
      ∧ (∀ e : Entry, (lookup f l).inEntry = some e ↔
          (e ∈ l ∧ e.fields.start ≤ f ∧ ∀ d ∈ l, d.fields.start ≤ f → d.fields.start ≤ e.fields.start))
      ∧ ∀ pre post : List Entry, ∀ e : Entry, l = pre ++ e :: post → e.fields.start ≤ f →
        (∀ d ∈ post, f < d.fields.start) →
          lookup f l =
            match pre.getLast? with
            | some p =>
                if 1 ≤ e.fields.dissolve ∧ f - e.fields.start < e.fields.dissolve then
                  .dissolve e (decide (e.fields.start = f)) p (f - e.fields.start + 1).toNat
                else .covered e (decide (e.fields.start = f))
            | none => .covered e (decide (e.fields.start = f))

/-- R74, R82, R102, R103, R109 to R125: stages 1 and 2 are clamp(floor((a + 512) / 1,024)) of each channel; a curve's output
lies between its two knots; luma weighs the channels by 306, 601 and 117; saturation and mix round by 128 over 256; stages 2
to 4 use the window record inside the latched window and the main record outside it, each lane with its own; a word of a frame
in a dissolve is the mix of the two lanes, of another frame the IN lane's result; FLAT writes the latched fill colour and BARS
the bar of the column; the legal clamp bounds what it is given; the pipeline is exact at identity; and with the latched levels
in 0 to 1,023 and the mix factor at most 256, what is written is that value, in 0 to 1,023, in a picture word. -/
def Obligations.PipelineStagesAreExact : Prop :=
  (∀ (inv : Bool) (b : BitVec 10) (k : BitVec 12) (x : Int), 0 ≤ x → x ≤ 1023 →
      profileChannel inv b k x =
        max 0 (min 1023 ((((if inv then 1023 - x else x) - b.toNat) * k.toNat + 512).fdiv 1024)))
    ∧ (∀ (lift : Int) (gain : Nat) (p : Int),
        gainChannel lift gain p = max 0 (min 1023 (((p + lift) * gain + 512).fdiv 1024)))
    ∧ (∀ (k : Curve) (g : Int) (i : Nat), 0 ≤ g → g ≤ 1023 → (i : Int) = g.fdiv 64 →
        ∀ a b : Nat, k[i]? = some a → k[i + 1]? = some b →
          curveChannel (some k) g = a + (((b : Int) - a) * (g - 64 * i) + 32).fdiv 64
            ∧ min (a : Int) b ≤ curveChannel (some k) g ∧ curveChannel (some k) g ≤ max (a : Int) b)
    ∧ (∀ c : Rgb Int, luma c = (306 * c.r + 601 * c.g + 117 * c.b + 512).fdiv 1024)
    ∧ (∀ (sat : Nat) (y c : Int),
        saturationChannel sat y c = max 0 (min 1023 (y + ((c - y) * sat + 128).fdiv 256)))
    ∧ (∀ (m : Nat) (o n : Int), m ≤ 256 →
        mixChannel m o n = o + ((n - o) * m + 128).fdiv 256
          ∧ min o n ≤ mixChannel m o n ∧ mixChannel m o n ≤ max o n)
    ∧ (∀ (w : ProfileValues) (p : Rgb Int),
        profileStage w p =
          ⟨profileChannel w.invert w.base.r w.scale.r p.r, profileChannel w.invert w.base.g w.scale.g p.g,
           profileChannel w.invert w.base.b w.scale.b p.b⟩)
    ∧ (∀ (g : GradeValues) (p c : Rgb Int),
        c = ⟨curveChannel g.curve.r (gainChannel g.lift.r g.gain.r p.r),
             curveChannel g.curve.g (gainChannel g.lift.g g.gain.g p.g),
             curveChannel g.curve.b (gainChannel g.lift.b g.gain.b p.b)⟩ →
          gradeStages g p =
            ⟨saturationChannel g.saturation (luma c) c.r, saturationChannel g.saturation (luma c) c.g,
             saturationChannel g.saturation (luma c) c.b⟩)
    ∧ (∀ g : Int, curveChannel none g = g)
    ∧ (∀ (p : Rgb Int), 0 ≤ p.r → p.r ≤ 1023 → 0 ≤ p.g → p.g ≤ 1023 → 0 ≤ p.b → p.b ≤ 1023 →
        gradeStages GradeValues.identity (profileStage ProfileValues.identity p) = p)
    ∧ (∀ (f : OpenFrame) (x y : Nat) (p : Rgb Int) (s : State),
        (f.substitution = .flat →
            formedChannels f x y p s = ⟨(f.setup.fill.r : Int), (f.setup.fill.g : Int), (f.setup.fill.b : Int)⟩)
          ∧ (∀ (bar : Nat) (level : List Nat → Int), f.substitution = .bars → x < s.setup.width →
              bar = x * 8 / s.setup.width →
              (∀ l, level l = if bar ∈ l then (f.setup.barLevel : Int) else (f.setup.legalLo : Int)) →
                formedChannels f x y p s = ⟨level [0, 1, 4, 5], level [0, 1, 2, 3], level [0, 2, 4, 6]⟩)
          ∧ ∀ record : LaneLatch → GradeValues,
              (∀ k, record k =
                match k.window with
                | some w =>
                    if w.rect.left ≤ x ∧ x < w.rect.left + w.rect.width ∧ w.rect.top ≤ y
                        ∧ y < w.rect.top + w.rect.height then w.grade
                    else k.main
                | none => k.main) →
              ∀ (i : LaneLatch) (n : Rgb Int), f.substitution = .none → s.lanes.incoming.latch = some i →
                n = gradeStages (record i) (profileStage s.lanes.incoming.held.values p) →
                  (f.lookup.outEntry = none → formedChannels f x y p s = n)
                    ∧ ∀ (k : LaneLatch) (o : Rgb Int), f.lookup.outEntry ≠ none → s.lanes.outgoing.latch = some k →
                      o = gradeStages (record k) (profileStage s.lanes.outgoing.held.values p) →
                        formedChannels f x y p s =
                          ⟨mixChannel s.mix.current o.r n.r, mixChannel s.mix.current o.g n.g,
                           mixChannel s.mix.current o.b n.b⟩)
    ∧ (∀ (f : FrameSetup) (v : Rgb Int),
        legalClamp f v =
          if f.legalEnable = true then
            ⟨max (f.legalLo : Int) (min (f.legalHi : Int) v.r), max (f.legalLo : Int) (min (f.legalHi : Int) v.g),
             max (f.legalLo : Int) (min (f.legalHi : Int) v.b)⟩
          else v)
    ∧ (∀ (f : FrameSetup) (v : Rgb Int), f.legalEnable = true → f.legalLo ≤ f.legalHi → f.legalHi ≤ 1023 →
        ((f.legalLo : Int) ≤ (legalClamp f v).r ∧ (legalClamp f v).r ≤ f.legalHi)
          ∧ ((f.legalLo : Int) ≤ (legalClamp f v).g ∧ (legalClamp f v).g ≤ f.legalHi)
          ∧ ((f.legalLo : Int) ≤ (legalClamp f v).b ∧ (legalClamp f v).b ≤ f.legalHi)
          ∧ channels (gradedWord (legalClamp f v)) =
              ⟨(legalClamp f v).r.toNat, (legalClamp f v).g.toNat, (legalClamp f v).b.toNat⟩)
    ∧ ∀ (f : OpenFrame) (x y : Nat) (p v : Rgb Int) (s : State),
        f.setup.fill.r ≤ 1023 → f.setup.fill.g ≤ 1023 → f.setup.fill.b ≤ 1023 → f.setup.barLevel ≤ 1023 →
        f.setup.legalLo ≤ f.setup.legalHi → f.setup.legalHi ≤ 1023 → s.mix.current ≤ 256 →
        v = legalClamp f.setup (formedChannels f x y p s) →
          (0 ≤ v.r ∧ v.r ≤ 1023) ∧ (0 ≤ v.g ∧ v.g ≤ 1023) ∧ (0 ≤ v.b ∧ v.b ≤ 1023)
            ∧ channels (gradedWord v) = ⟨v.r.toNat, v.g.toNat, v.b.toNat⟩ ∧ isPicture (gradedWord v) = true

/-! ## Invariants -/

/-- R2, R189: every step keeps the canonical form of the frame store; and every step keeps every stored byte inside the
store, every base in use and every word of a report write in progress at a word address of the store, and every waiting
transaction at a multiple of 4 bytes. -/
def Obligations.StepsKeepTheStore : Prop :=
  ∀ s s' : State, step s = .next s' →
    (StoreCanonical s → StoreCanonical s') ∧ (AddressesSound s → AddressesSound s')

/-- R48: every step keeps the ordered list in strictly increasing order of start frame, with the LISTED slots as its entries. -/
def Obligations.StepsKeepTheOrderedList : Prop :=
  ∀ s s' : State, step s = .next s' → OrderedListSound s → OrderedListSound s'

/-- R14, R15, R29, R34: every step keeps the clamped setup values in their ranges, the frame number and phase in theirs, and a
running transport within the stop limit of its last accepted edge. -/
def Obligations.StepsKeepSetupAndFootageInRange : Prop :=
  ∀ s s' : State, step s = .next s' → SetupInRange s →
    SetupInRange s' ∧ (FootageInRange s → FootageInRange s') ∧ (RunningWithinStopLimit s → RunningWithinStopLimit s')

/-- R128, R129, R134, R138, R142 to R144: every step keeps the divisors nonzero; the held mix factor 256 or the exact factor of a
position in a dissolve of 1 to 255 frames, and the cached step that of its length; and a valid recip the reciprocal of the
geometry in use. -/
def Obligations.StepsKeepTheDivider : Prop :=
  ∀ s s' : State, step s = .next s' →
    (SetupInRange s → DivisorsNonzero s → DivisorsNonzero s') ∧ (MixSound s → MixSound s')
      ∧ (RecipSound s → RecipSound s')

/-- R185 to R189, R192: every step keeps the queue within 8 records, the pointers in the ring with the used words within its
size and the record in flight within the free words, and ATTN at what the pointers and ATTN enable give. -/
def Obligations.StepsKeepTheRing : Prop :=
  ∀ s s' : State, step s = .next s' →
    (QueueBounded s → QueueBounded s') ∧ (SetupInRange s → RingSound s → RingSound s')
      ∧ (AttnFollowsPointers s → AttnFollowsPointers s')

/-- R90, R91, R160, R178, R180: every step keeps a frame open in ACTIVE alone, the recent-cuts list within 16 distinct numbers,
and a profile being written INCOMPLETE and held by no lane. -/
def Obligations.StepsKeepFramesCutsAndProfiles : Prop :=
  ∀ s s' : State, step s = .next s' →
    (OpenOnlyInActive s → OpenOnlyInActive s') ∧ (RecentCutsSound s → RecentCutsSound s')
      ∧ (ProgrammingSound s → ProgrammingSound s')

/-- R21: while RST is asserted every command but its release leaves every block at its reset values. -/
def Obligations.ResetIsKeptUntilRelease : Prop :=
  ∀ (c : Instr) (s s' : State), (∀ b, c ≠ .rstRelease b) → HeldInReset s → exec c s = .next s' → HeldInReset s'

/-- R16, R45, R48, R91, R128, R148, R184: the state after RST meets every invariant that steps keep. -/
def Obligations.ResetMeetsTheInvariants : Prop :=
  StoreCanonical State.reset ∧ AddressesSound State.reset ∧ OrderedListSound State.reset ∧ SetupInRange State.reset
    ∧ FootageInRange State.reset ∧ RunningWithinStopLimit State.reset ∧ DivisorsNonzero State.reset
    ∧ MixSound State.reset ∧ RecipSound State.reset ∧ QueueBounded State.reset ∧ RingSound State.reset
    ∧ AttnFollowsPointers State.reset ∧ OpenOnlyInActive State.reset ∧ RecentCutsSound State.reset
    ∧ ProgrammingSound State.reset ∧ HeldInReset State.held
end

