-- ==== Sys2Proof/Laws/State.lean ====
section
/-! SUPPORT. One lemma for each field under each update of State, so that no proof unfolds a record update. -/

namespace Sys2Proof.Machine

variable (s : State)

@[simp] theorem State.withResetAsserted_resetAsserted (v : Bool) : (s.withResetAsserted v).resetAsserted = v := rfl
@[simp] theorem State.withResetAsserted_setupSel (v : Bool) : (s.withResetAsserted v).setupSel = s.setupSel := rfl
@[simp] theorem State.withResetAsserted_partState (v : Bool) : (s.withResetAsserted v).partState = s.partState := rfl
@[simp] theorem State.withResetAsserted_shadow (v : Bool) : (s.withResetAsserted v).shadow = s.shadow := rfl
@[simp] theorem State.withResetAsserted_setup (v : Bool) : (s.withResetAsserted v).setup = s.setup := rfl
@[simp] theorem State.withResetAsserted_reload (v : Bool) : (s.withResetAsserted v).reload = s.reload := rfl
@[simp] theorem State.withResetAsserted_port (v : Bool) : (s.withResetAsserted v).port = s.port := rfl
@[simp] theorem State.withResetAsserted_tables (v : Bool) : (s.withResetAsserted v).tables = s.tables := rfl
@[simp] theorem State.withResetAsserted_gradeList (v : Bool) : (s.withResetAsserted v).gradeList = s.gradeList := rfl
@[simp] theorem State.withResetAsserted_footage (v : Bool) : (s.withResetAsserted v).footage = s.footage := rfl
@[simp] theorem State.withResetAsserted_tracker (v : Bool) : (s.withResetAsserted v).tracker = s.tracker := rfl
@[simp] theorem State.withResetAsserted_lanes (v : Bool) : (s.withResetAsserted v).lanes = s.lanes := rfl
@[simp] theorem State.withResetAsserted_mix (v : Bool) : (s.withResetAsserted v).mix = s.mix := rfl
@[simp] theorem State.withResetAsserted_divider (v : Bool) : (s.withResetAsserted v).divider = s.divider := rfl
@[simp] theorem State.withResetAsserted_detector (v : Bool) : (s.withResetAsserted v).detector = s.detector := rfl
@[simp] theorem State.withResetAsserted_profiles (v : Bool) : (s.withResetAsserted v).profiles = s.profiles := rfl
@[simp] theorem State.withResetAsserted_ring (v : Bool) : (s.withResetAsserted v).ring = s.ring := rfl
@[simp] theorem State.withResetAsserted_store (v : Bool) : (s.withResetAsserted v).store = s.store := rfl
@[simp] theorem State.withResetAsserted_returned (v : Bool) : (s.withResetAsserted v).returned = s.returned := rfl
@[simp] theorem State.withResetAsserted_freeCount (v : Bool) : (s.withResetAsserted v).freeCount = s.freeCount := rfl
@[simp] theorem State.withResetAsserted_pending (v : Bool) : (s.withResetAsserted v).pending = s.pending := rfl
@[simp] theorem State.withSetupSel_resetAsserted (v : Fin 8) : (s.withSetupSel v).resetAsserted = s.resetAsserted := rfl
@[simp] theorem State.withSetupSel_setupSel (v : Fin 8) : (s.withSetupSel v).setupSel = v := rfl
@[simp] theorem State.withSetupSel_partState (v : Fin 8) : (s.withSetupSel v).partState = s.partState := rfl
@[simp] theorem State.withSetupSel_shadow (v : Fin 8) : (s.withSetupSel v).shadow = s.shadow := rfl
@[simp] theorem State.withSetupSel_setup (v : Fin 8) : (s.withSetupSel v).setup = s.setup := rfl
@[simp] theorem State.withSetupSel_reload (v : Fin 8) : (s.withSetupSel v).reload = s.reload := rfl
@[simp] theorem State.withSetupSel_port (v : Fin 8) : (s.withSetupSel v).port = s.port := rfl
@[simp] theorem State.withSetupSel_tables (v : Fin 8) : (s.withSetupSel v).tables = s.tables := rfl
@[simp] theorem State.withSetupSel_gradeList (v : Fin 8) : (s.withSetupSel v).gradeList = s.gradeList := rfl
@[simp] theorem State.withSetupSel_footage (v : Fin 8) : (s.withSetupSel v).footage = s.footage := rfl
@[simp] theorem State.withSetupSel_tracker (v : Fin 8) : (s.withSetupSel v).tracker = s.tracker := rfl
@[simp] theorem State.withSetupSel_lanes (v : Fin 8) : (s.withSetupSel v).lanes = s.lanes := rfl
@[simp] theorem State.withSetupSel_mix (v : Fin 8) : (s.withSetupSel v).mix = s.mix := rfl
@[simp] theorem State.withSetupSel_divider (v : Fin 8) : (s.withSetupSel v).divider = s.divider := rfl
@[simp] theorem State.withSetupSel_detector (v : Fin 8) : (s.withSetupSel v).detector = s.detector := rfl
@[simp] theorem State.withSetupSel_profiles (v : Fin 8) : (s.withSetupSel v).profiles = s.profiles := rfl
@[simp] theorem State.withSetupSel_ring (v : Fin 8) : (s.withSetupSel v).ring = s.ring := rfl
@[simp] theorem State.withSetupSel_store (v : Fin 8) : (s.withSetupSel v).store = s.store := rfl
@[simp] theorem State.withSetupSel_returned (v : Fin 8) : (s.withSetupSel v).returned = s.returned := rfl
@[simp] theorem State.withSetupSel_freeCount (v : Fin 8) : (s.withSetupSel v).freeCount = s.freeCount := rfl
@[simp] theorem State.withSetupSel_pending (v : Fin 8) : (s.withSetupSel v).pending = s.pending := rfl
@[simp] theorem State.withPartState_resetAsserted (v : PartState) : (s.withPartState v).resetAsserted = s.resetAsserted := rfl
@[simp] theorem State.withPartState_setupSel (v : PartState) : (s.withPartState v).setupSel = s.setupSel := rfl
@[simp] theorem State.withPartState_partState (v : PartState) : (s.withPartState v).partState = v := rfl
@[simp] theorem State.withPartState_shadow (v : PartState) : (s.withPartState v).shadow = s.shadow := rfl
@[simp] theorem State.withPartState_setup (v : PartState) : (s.withPartState v).setup = s.setup := rfl
@[simp] theorem State.withPartState_reload (v : PartState) : (s.withPartState v).reload = s.reload := rfl
@[simp] theorem State.withPartState_port (v : PartState) : (s.withPartState v).port = s.port := rfl
@[simp] theorem State.withPartState_tables (v : PartState) : (s.withPartState v).tables = s.tables := rfl
@[simp] theorem State.withPartState_gradeList (v : PartState) : (s.withPartState v).gradeList = s.gradeList := rfl
@[simp] theorem State.withPartState_footage (v : PartState) : (s.withPartState v).footage = s.footage := rfl
@[simp] theorem State.withPartState_tracker (v : PartState) : (s.withPartState v).tracker = s.tracker := rfl
@[simp] theorem State.withPartState_lanes (v : PartState) : (s.withPartState v).lanes = s.lanes := rfl
@[simp] theorem State.withPartState_mix (v : PartState) : (s.withPartState v).mix = s.mix := rfl
@[simp] theorem State.withPartState_divider (v : PartState) : (s.withPartState v).divider = s.divider := rfl
@[simp] theorem State.withPartState_detector (v : PartState) : (s.withPartState v).detector = s.detector := rfl
@[simp] theorem State.withPartState_profiles (v : PartState) : (s.withPartState v).profiles = s.profiles := rfl
@[simp] theorem State.withPartState_ring (v : PartState) : (s.withPartState v).ring = s.ring := rfl
@[simp] theorem State.withPartState_store (v : PartState) : (s.withPartState v).store = s.store := rfl
@[simp] theorem State.withPartState_returned (v : PartState) : (s.withPartState v).returned = s.returned := rfl
@[simp] theorem State.withPartState_freeCount (v : PartState) : (s.withPartState v).freeCount = s.freeCount := rfl
@[simp] theorem State.withPartState_pending (v : PartState) : (s.withPartState v).pending = s.pending := rfl
@[simp] theorem State.withShadow_resetAsserted (v : Vector Word 64) : (s.withShadow v).resetAsserted = s.resetAsserted := rfl
@[simp] theorem State.withShadow_setupSel (v : Vector Word 64) : (s.withShadow v).setupSel = s.setupSel := rfl
@[simp] theorem State.withShadow_partState (v : Vector Word 64) : (s.withShadow v).partState = s.partState := rfl
@[simp] theorem State.withShadow_shadow (v : Vector Word 64) : (s.withShadow v).shadow = v := rfl
@[simp] theorem State.withShadow_setup (v : Vector Word 64) : (s.withShadow v).setup = s.setup := rfl
@[simp] theorem State.withShadow_reload (v : Vector Word 64) : (s.withShadow v).reload = s.reload := rfl
@[simp] theorem State.withShadow_port (v : Vector Word 64) : (s.withShadow v).port = s.port := rfl
@[simp] theorem State.withShadow_tables (v : Vector Word 64) : (s.withShadow v).tables = s.tables := rfl
@[simp] theorem State.withShadow_gradeList (v : Vector Word 64) : (s.withShadow v).gradeList = s.gradeList := rfl
@[simp] theorem State.withShadow_footage (v : Vector Word 64) : (s.withShadow v).footage = s.footage := rfl
@[simp] theorem State.withShadow_tracker (v : Vector Word 64) : (s.withShadow v).tracker = s.tracker := rfl
@[simp] theorem State.withShadow_lanes (v : Vector Word 64) : (s.withShadow v).lanes = s.lanes := rfl
@[simp] theorem State.withShadow_mix (v : Vector Word 64) : (s.withShadow v).mix = s.mix := rfl
@[simp] theorem State.withShadow_divider (v : Vector Word 64) : (s.withShadow v).divider = s.divider := rfl
@[simp] theorem State.withShadow_detector (v : Vector Word 64) : (s.withShadow v).detector = s.detector := rfl
@[simp] theorem State.withShadow_profiles (v : Vector Word 64) : (s.withShadow v).profiles = s.profiles := rfl
@[simp] theorem State.withShadow_ring (v : Vector Word 64) : (s.withShadow v).ring = s.ring := rfl
@[simp] theorem State.withShadow_store (v : Vector Word 64) : (s.withShadow v).store = s.store := rfl
@[simp] theorem State.withShadow_returned (v : Vector Word 64) : (s.withShadow v).returned = s.returned := rfl
@[simp] theorem State.withShadow_freeCount (v : Vector Word 64) : (s.withShadow v).freeCount = s.freeCount := rfl
@[simp] theorem State.withShadow_pending (v : Vector Word 64) : (s.withShadow v).pending = s.pending := rfl
@[simp] theorem State.withSetup_resetAsserted (v : Setup) : (s.withSetup v).resetAsserted = s.resetAsserted := rfl
@[simp] theorem State.withSetup_setupSel (v : Setup) : (s.withSetup v).setupSel = s.setupSel := rfl
@[simp] theorem State.withSetup_partState (v : Setup) : (s.withSetup v).partState = s.partState := rfl
@[simp] theorem State.withSetup_shadow (v : Setup) : (s.withSetup v).shadow = s.shadow := rfl
@[simp] theorem State.withSetup_setup (v : Setup) : (s.withSetup v).setup = v := rfl
@[simp] theorem State.withSetup_reload (v : Setup) : (s.withSetup v).reload = s.reload := rfl
@[simp] theorem State.withSetup_port (v : Setup) : (s.withSetup v).port = s.port := rfl
@[simp] theorem State.withSetup_tables (v : Setup) : (s.withSetup v).tables = s.tables := rfl
@[simp] theorem State.withSetup_gradeList (v : Setup) : (s.withSetup v).gradeList = s.gradeList := rfl
@[simp] theorem State.withSetup_footage (v : Setup) : (s.withSetup v).footage = s.footage := rfl
@[simp] theorem State.withSetup_tracker (v : Setup) : (s.withSetup v).tracker = s.tracker := rfl
@[simp] theorem State.withSetup_lanes (v : Setup) : (s.withSetup v).lanes = s.lanes := rfl
@[simp] theorem State.withSetup_mix (v : Setup) : (s.withSetup v).mix = s.mix := rfl
@[simp] theorem State.withSetup_divider (v : Setup) : (s.withSetup v).divider = s.divider := rfl
@[simp] theorem State.withSetup_detector (v : Setup) : (s.withSetup v).detector = s.detector := rfl
@[simp] theorem State.withSetup_profiles (v : Setup) : (s.withSetup v).profiles = s.profiles := rfl
@[simp] theorem State.withSetup_ring (v : Setup) : (s.withSetup v).ring = s.ring := rfl
@[simp] theorem State.withSetup_store (v : Setup) : (s.withSetup v).store = s.store := rfl
@[simp] theorem State.withSetup_returned (v : Setup) : (s.withSetup v).returned = s.returned := rfl
@[simp] theorem State.withSetup_freeCount (v : Setup) : (s.withSetup v).freeCount = s.freeCount := rfl
@[simp] theorem State.withSetup_pending (v : Setup) : (s.withSetup v).pending = s.pending := rfl
@[simp] theorem State.withReload_resetAsserted (v : PerTable TableProgress) : (s.withReload v).resetAsserted = s.resetAsserted := rfl
@[simp] theorem State.withReload_setupSel (v : PerTable TableProgress) : (s.withReload v).setupSel = s.setupSel := rfl
@[simp] theorem State.withReload_partState (v : PerTable TableProgress) : (s.withReload v).partState = s.partState := rfl
@[simp] theorem State.withReload_shadow (v : PerTable TableProgress) : (s.withReload v).shadow = s.shadow := rfl
@[simp] theorem State.withReload_setup (v : PerTable TableProgress) : (s.withReload v).setup = s.setup := rfl
@[simp] theorem State.withReload_reload (v : PerTable TableProgress) : (s.withReload v).reload = v := rfl
@[simp] theorem State.withReload_port (v : PerTable TableProgress) : (s.withReload v).port = s.port := rfl
@[simp] theorem State.withReload_tables (v : PerTable TableProgress) : (s.withReload v).tables = s.tables := rfl
@[simp] theorem State.withReload_gradeList (v : PerTable TableProgress) : (s.withReload v).gradeList = s.gradeList := rfl
@[simp] theorem State.withReload_footage (v : PerTable TableProgress) : (s.withReload v).footage = s.footage := rfl
@[simp] theorem State.withReload_tracker (v : PerTable TableProgress) : (s.withReload v).tracker = s.tracker := rfl
@[simp] theorem State.withReload_lanes (v : PerTable TableProgress) : (s.withReload v).lanes = s.lanes := rfl
@[simp] theorem State.withReload_mix (v : PerTable TableProgress) : (s.withReload v).mix = s.mix := rfl
@[simp] theorem State.withReload_divider (v : PerTable TableProgress) : (s.withReload v).divider = s.divider := rfl
@[simp] theorem State.withReload_detector (v : PerTable TableProgress) : (s.withReload v).detector = s.detector := rfl
@[simp] theorem State.withReload_profiles (v : PerTable TableProgress) : (s.withReload v).profiles = s.profiles := rfl
@[simp] theorem State.withReload_ring (v : PerTable TableProgress) : (s.withReload v).ring = s.ring := rfl
@[simp] theorem State.withReload_store (v : PerTable TableProgress) : (s.withReload v).store = s.store := rfl
@[simp] theorem State.withReload_returned (v : PerTable TableProgress) : (s.withReload v).returned = s.returned := rfl
@[simp] theorem State.withReload_freeCount (v : PerTable TableProgress) : (s.withReload v).freeCount = s.freeCount := rfl
@[simp] theorem State.withReload_pending (v : PerTable TableProgress) : (s.withReload v).pending = s.pending := rfl
@[simp] theorem State.withPort_resetAsserted (v : MemoryPort) : (s.withPort v).resetAsserted = s.resetAsserted := rfl
@[simp] theorem State.withPort_setupSel (v : MemoryPort) : (s.withPort v).setupSel = s.setupSel := rfl
@[simp] theorem State.withPort_partState (v : MemoryPort) : (s.withPort v).partState = s.partState := rfl
@[simp] theorem State.withPort_shadow (v : MemoryPort) : (s.withPort v).shadow = s.shadow := rfl
@[simp] theorem State.withPort_setup (v : MemoryPort) : (s.withPort v).setup = s.setup := rfl
@[simp] theorem State.withPort_reload (v : MemoryPort) : (s.withPort v).reload = s.reload := rfl
@[simp] theorem State.withPort_port (v : MemoryPort) : (s.withPort v).port = v := rfl
@[simp] theorem State.withPort_tables (v : MemoryPort) : (s.withPort v).tables = s.tables := rfl
@[simp] theorem State.withPort_gradeList (v : MemoryPort) : (s.withPort v).gradeList = s.gradeList := rfl
@[simp] theorem State.withPort_footage (v : MemoryPort) : (s.withPort v).footage = s.footage := rfl
@[simp] theorem State.withPort_tracker (v : MemoryPort) : (s.withPort v).tracker = s.tracker := rfl
@[simp] theorem State.withPort_lanes (v : MemoryPort) : (s.withPort v).lanes = s.lanes := rfl
@[simp] theorem State.withPort_mix (v : MemoryPort) : (s.withPort v).mix = s.mix := rfl
@[simp] theorem State.withPort_divider (v : MemoryPort) : (s.withPort v).divider = s.divider := rfl
@[simp] theorem State.withPort_detector (v : MemoryPort) : (s.withPort v).detector = s.detector := rfl
@[simp] theorem State.withPort_profiles (v : MemoryPort) : (s.withPort v).profiles = s.profiles := rfl
@[simp] theorem State.withPort_ring (v : MemoryPort) : (s.withPort v).ring = s.ring := rfl
@[simp] theorem State.withPort_store (v : MemoryPort) : (s.withPort v).store = s.store := rfl
@[simp] theorem State.withPort_returned (v : MemoryPort) : (s.withPort v).returned = s.returned := rfl
@[simp] theorem State.withPort_freeCount (v : MemoryPort) : (s.withPort v).freeCount = s.freeCount := rfl
@[simp] theorem State.withPort_pending (v : MemoryPort) : (s.withPort v).pending = s.pending := rfl
@[simp] theorem State.withTables_resetAsserted (v : Shadows) : (s.withTables v).resetAsserted = s.resetAsserted := rfl
@[simp] theorem State.withTables_setupSel (v : Shadows) : (s.withTables v).setupSel = s.setupSel := rfl
@[simp] theorem State.withTables_partState (v : Shadows) : (s.withTables v).partState = s.partState := rfl
@[simp] theorem State.withTables_shadow (v : Shadows) : (s.withTables v).shadow = s.shadow := rfl
@[simp] theorem State.withTables_setup (v : Shadows) : (s.withTables v).setup = s.setup := rfl
@[simp] theorem State.withTables_reload (v : Shadows) : (s.withTables v).reload = s.reload := rfl
@[simp] theorem State.withTables_port (v : Shadows) : (s.withTables v).port = s.port := rfl
@[simp] theorem State.withTables_tables (v : Shadows) : (s.withTables v).tables = v := rfl
@[simp] theorem State.withTables_gradeList (v : Shadows) : (s.withTables v).gradeList = s.gradeList := rfl
@[simp] theorem State.withTables_footage (v : Shadows) : (s.withTables v).footage = s.footage := rfl
@[simp] theorem State.withTables_tracker (v : Shadows) : (s.withTables v).tracker = s.tracker := rfl
@[simp] theorem State.withTables_lanes (v : Shadows) : (s.withTables v).lanes = s.lanes := rfl
@[simp] theorem State.withTables_mix (v : Shadows) : (s.withTables v).mix = s.mix := rfl
@[simp] theorem State.withTables_divider (v : Shadows) : (s.withTables v).divider = s.divider := rfl
@[simp] theorem State.withTables_detector (v : Shadows) : (s.withTables v).detector = s.detector := rfl
@[simp] theorem State.withTables_profiles (v : Shadows) : (s.withTables v).profiles = s.profiles := rfl
@[simp] theorem State.withTables_ring (v : Shadows) : (s.withTables v).ring = s.ring := rfl
@[simp] theorem State.withTables_store (v : Shadows) : (s.withTables v).store = s.store := rfl
@[simp] theorem State.withTables_returned (v : Shadows) : (s.withTables v).returned = s.returned := rfl
@[simp] theorem State.withTables_freeCount (v : Shadows) : (s.withTables v).freeCount = s.freeCount := rfl
@[simp] theorem State.withTables_pending (v : Shadows) : (s.withTables v).pending = s.pending := rfl
@[simp] theorem State.withGradeList_resetAsserted (v : GradeList) : (s.withGradeList v).resetAsserted = s.resetAsserted := rfl
@[simp] theorem State.withGradeList_setupSel (v : GradeList) : (s.withGradeList v).setupSel = s.setupSel := rfl
@[simp] theorem State.withGradeList_partState (v : GradeList) : (s.withGradeList v).partState = s.partState := rfl
@[simp] theorem State.withGradeList_shadow (v : GradeList) : (s.withGradeList v).shadow = s.shadow := rfl
@[simp] theorem State.withGradeList_setup (v : GradeList) : (s.withGradeList v).setup = s.setup := rfl
@[simp] theorem State.withGradeList_reload (v : GradeList) : (s.withGradeList v).reload = s.reload := rfl
@[simp] theorem State.withGradeList_port (v : GradeList) : (s.withGradeList v).port = s.port := rfl
@[simp] theorem State.withGradeList_tables (v : GradeList) : (s.withGradeList v).tables = s.tables := rfl
@[simp] theorem State.withGradeList_gradeList (v : GradeList) : (s.withGradeList v).gradeList = v := rfl
@[simp] theorem State.withGradeList_footage (v : GradeList) : (s.withGradeList v).footage = s.footage := rfl
@[simp] theorem State.withGradeList_tracker (v : GradeList) : (s.withGradeList v).tracker = s.tracker := rfl
@[simp] theorem State.withGradeList_lanes (v : GradeList) : (s.withGradeList v).lanes = s.lanes := rfl
@[simp] theorem State.withGradeList_mix (v : GradeList) : (s.withGradeList v).mix = s.mix := rfl
@[simp] theorem State.withGradeList_divider (v : GradeList) : (s.withGradeList v).divider = s.divider := rfl
@[simp] theorem State.withGradeList_detector (v : GradeList) : (s.withGradeList v).detector = s.detector := rfl
@[simp] theorem State.withGradeList_profiles (v : GradeList) : (s.withGradeList v).profiles = s.profiles := rfl
@[simp] theorem State.withGradeList_ring (v : GradeList) : (s.withGradeList v).ring = s.ring := rfl
@[simp] theorem State.withGradeList_store (v : GradeList) : (s.withGradeList v).store = s.store := rfl
@[simp] theorem State.withGradeList_returned (v : GradeList) : (s.withGradeList v).returned = s.returned := rfl
@[simp] theorem State.withGradeList_freeCount (v : GradeList) : (s.withGradeList v).freeCount = s.freeCount := rfl
@[simp] theorem State.withGradeList_pending (v : GradeList) : (s.withGradeList v).pending = s.pending := rfl
@[simp] theorem State.withFootage_resetAsserted (v : Footage) : (s.withFootage v).resetAsserted = s.resetAsserted := rfl
@[simp] theorem State.withFootage_setupSel (v : Footage) : (s.withFootage v).setupSel = s.setupSel := rfl
@[simp] theorem State.withFootage_partState (v : Footage) : (s.withFootage v).partState = s.partState := rfl
@[simp] theorem State.withFootage_shadow (v : Footage) : (s.withFootage v).shadow = s.shadow := rfl
@[simp] theorem State.withFootage_setup (v : Footage) : (s.withFootage v).setup = s.setup := rfl
@[simp] theorem State.withFootage_reload (v : Footage) : (s.withFootage v).reload = s.reload := rfl
@[simp] theorem State.withFootage_port (v : Footage) : (s.withFootage v).port = s.port := rfl
@[simp] theorem State.withFootage_tables (v : Footage) : (s.withFootage v).tables = s.tables := rfl
@[simp] theorem State.withFootage_gradeList (v : Footage) : (s.withFootage v).gradeList = s.gradeList := rfl
@[simp] theorem State.withFootage_footage (v : Footage) : (s.withFootage v).footage = v := rfl
@[simp] theorem State.withFootage_tracker (v : Footage) : (s.withFootage v).tracker = s.tracker := rfl
@[simp] theorem State.withFootage_lanes (v : Footage) : (s.withFootage v).lanes = s.lanes := rfl
@[simp] theorem State.withFootage_mix (v : Footage) : (s.withFootage v).mix = s.mix := rfl
@[simp] theorem State.withFootage_divider (v : Footage) : (s.withFootage v).divider = s.divider := rfl
@[simp] theorem State.withFootage_detector (v : Footage) : (s.withFootage v).detector = s.detector := rfl
@[simp] theorem State.withFootage_profiles (v : Footage) : (s.withFootage v).profiles = s.profiles := rfl
@[simp] theorem State.withFootage_ring (v : Footage) : (s.withFootage v).ring = s.ring := rfl
@[simp] theorem State.withFootage_store (v : Footage) : (s.withFootage v).store = s.store := rfl
@[simp] theorem State.withFootage_returned (v : Footage) : (s.withFootage v).returned = s.returned := rfl
@[simp] theorem State.withFootage_freeCount (v : Footage) : (s.withFootage v).freeCount = s.freeCount := rfl
@[simp] theorem State.withFootage_pending (v : Footage) : (s.withFootage v).pending = s.pending := rfl
@[simp] theorem State.withTracker_resetAsserted (v : Tracker) : (s.withTracker v).resetAsserted = s.resetAsserted := rfl
@[simp] theorem State.withTracker_setupSel (v : Tracker) : (s.withTracker v).setupSel = s.setupSel := rfl
@[simp] theorem State.withTracker_partState (v : Tracker) : (s.withTracker v).partState = s.partState := rfl
@[simp] theorem State.withTracker_shadow (v : Tracker) : (s.withTracker v).shadow = s.shadow := rfl
@[simp] theorem State.withTracker_setup (v : Tracker) : (s.withTracker v).setup = s.setup := rfl
@[simp] theorem State.withTracker_reload (v : Tracker) : (s.withTracker v).reload = s.reload := rfl
@[simp] theorem State.withTracker_port (v : Tracker) : (s.withTracker v).port = s.port := rfl
@[simp] theorem State.withTracker_tables (v : Tracker) : (s.withTracker v).tables = s.tables := rfl
@[simp] theorem State.withTracker_gradeList (v : Tracker) : (s.withTracker v).gradeList = s.gradeList := rfl
@[simp] theorem State.withTracker_footage (v : Tracker) : (s.withTracker v).footage = s.footage := rfl
@[simp] theorem State.withTracker_tracker (v : Tracker) : (s.withTracker v).tracker = v := rfl
@[simp] theorem State.withTracker_lanes (v : Tracker) : (s.withTracker v).lanes = s.lanes := rfl
@[simp] theorem State.withTracker_mix (v : Tracker) : (s.withTracker v).mix = s.mix := rfl
@[simp] theorem State.withTracker_divider (v : Tracker) : (s.withTracker v).divider = s.divider := rfl
@[simp] theorem State.withTracker_detector (v : Tracker) : (s.withTracker v).detector = s.detector := rfl
@[simp] theorem State.withTracker_profiles (v : Tracker) : (s.withTracker v).profiles = s.profiles := rfl
@[simp] theorem State.withTracker_ring (v : Tracker) : (s.withTracker v).ring = s.ring := rfl
@[simp] theorem State.withTracker_store (v : Tracker) : (s.withTracker v).store = s.store := rfl
@[simp] theorem State.withTracker_returned (v : Tracker) : (s.withTracker v).returned = s.returned := rfl
@[simp] theorem State.withTracker_freeCount (v : Tracker) : (s.withTracker v).freeCount = s.freeCount := rfl
@[simp] theorem State.withTracker_pending (v : Tracker) : (s.withTracker v).pending = s.pending := rfl
@[simp] theorem State.withLanes_resetAsserted (v : LanePair) : (s.withLanes v).resetAsserted = s.resetAsserted := rfl
@[simp] theorem State.withLanes_setupSel (v : LanePair) : (s.withLanes v).setupSel = s.setupSel := rfl
@[simp] theorem State.withLanes_partState (v : LanePair) : (s.withLanes v).partState = s.partState := rfl
@[simp] theorem State.withLanes_shadow (v : LanePair) : (s.withLanes v).shadow = s.shadow := rfl
@[simp] theorem State.withLanes_setup (v : LanePair) : (s.withLanes v).setup = s.setup := rfl
@[simp] theorem State.withLanes_reload (v : LanePair) : (s.withLanes v).reload = s.reload := rfl
@[simp] theorem State.withLanes_port (v : LanePair) : (s.withLanes v).port = s.port := rfl
@[simp] theorem State.withLanes_tables (v : LanePair) : (s.withLanes v).tables = s.tables := rfl
@[simp] theorem State.withLanes_gradeList (v : LanePair) : (s.withLanes v).gradeList = s.gradeList := rfl
@[simp] theorem State.withLanes_footage (v : LanePair) : (s.withLanes v).footage = s.footage := rfl
@[simp] theorem State.withLanes_tracker (v : LanePair) : (s.withLanes v).tracker = s.tracker := rfl
@[simp] theorem State.withLanes_lanes (v : LanePair) : (s.withLanes v).lanes = v := rfl
@[simp] theorem State.withLanes_mix (v : LanePair) : (s.withLanes v).mix = s.mix := rfl
@[simp] theorem State.withLanes_divider (v : LanePair) : (s.withLanes v).divider = s.divider := rfl
@[simp] theorem State.withLanes_detector (v : LanePair) : (s.withLanes v).detector = s.detector := rfl
@[simp] theorem State.withLanes_profiles (v : LanePair) : (s.withLanes v).profiles = s.profiles := rfl
@[simp] theorem State.withLanes_ring (v : LanePair) : (s.withLanes v).ring = s.ring := rfl
@[simp] theorem State.withLanes_store (v : LanePair) : (s.withLanes v).store = s.store := rfl
@[simp] theorem State.withLanes_returned (v : LanePair) : (s.withLanes v).returned = s.returned := rfl
@[simp] theorem State.withLanes_freeCount (v : LanePair) : (s.withLanes v).freeCount = s.freeCount := rfl
@[simp] theorem State.withLanes_pending (v : LanePair) : (s.withLanes v).pending = s.pending := rfl
@[simp] theorem State.withMix_resetAsserted (v : MixStage) : (s.withMix v).resetAsserted = s.resetAsserted := rfl
@[simp] theorem State.withMix_setupSel (v : MixStage) : (s.withMix v).setupSel = s.setupSel := rfl
@[simp] theorem State.withMix_partState (v : MixStage) : (s.withMix v).partState = s.partState := rfl
@[simp] theorem State.withMix_shadow (v : MixStage) : (s.withMix v).shadow = s.shadow := rfl
@[simp] theorem State.withMix_setup (v : MixStage) : (s.withMix v).setup = s.setup := rfl
@[simp] theorem State.withMix_reload (v : MixStage) : (s.withMix v).reload = s.reload := rfl
@[simp] theorem State.withMix_port (v : MixStage) : (s.withMix v).port = s.port := rfl
@[simp] theorem State.withMix_tables (v : MixStage) : (s.withMix v).tables = s.tables := rfl
@[simp] theorem State.withMix_gradeList (v : MixStage) : (s.withMix v).gradeList = s.gradeList := rfl
@[simp] theorem State.withMix_footage (v : MixStage) : (s.withMix v).footage = s.footage := rfl
@[simp] theorem State.withMix_tracker (v : MixStage) : (s.withMix v).tracker = s.tracker := rfl
@[simp] theorem State.withMix_lanes (v : MixStage) : (s.withMix v).lanes = s.lanes := rfl
@[simp] theorem State.withMix_mix (v : MixStage) : (s.withMix v).mix = v := rfl
@[simp] theorem State.withMix_divider (v : MixStage) : (s.withMix v).divider = s.divider := rfl
@[simp] theorem State.withMix_detector (v : MixStage) : (s.withMix v).detector = s.detector := rfl
@[simp] theorem State.withMix_profiles (v : MixStage) : (s.withMix v).profiles = s.profiles := rfl
@[simp] theorem State.withMix_ring (v : MixStage) : (s.withMix v).ring = s.ring := rfl
@[simp] theorem State.withMix_store (v : MixStage) : (s.withMix v).store = s.store := rfl
@[simp] theorem State.withMix_returned (v : MixStage) : (s.withMix v).returned = s.returned := rfl
@[simp] theorem State.withMix_freeCount (v : MixStage) : (s.withMix v).freeCount = s.freeCount := rfl
@[simp] theorem State.withMix_pending (v : MixStage) : (s.withMix v).pending = s.pending := rfl
@[simp] theorem State.withDivider_resetAsserted (v : Divider) : (s.withDivider v).resetAsserted = s.resetAsserted := rfl
@[simp] theorem State.withDivider_setupSel (v : Divider) : (s.withDivider v).setupSel = s.setupSel := rfl
@[simp] theorem State.withDivider_partState (v : Divider) : (s.withDivider v).partState = s.partState := rfl
@[simp] theorem State.withDivider_shadow (v : Divider) : (s.withDivider v).shadow = s.shadow := rfl
@[simp] theorem State.withDivider_setup (v : Divider) : (s.withDivider v).setup = s.setup := rfl
@[simp] theorem State.withDivider_reload (v : Divider) : (s.withDivider v).reload = s.reload := rfl
@[simp] theorem State.withDivider_port (v : Divider) : (s.withDivider v).port = s.port := rfl
@[simp] theorem State.withDivider_tables (v : Divider) : (s.withDivider v).tables = s.tables := rfl
@[simp] theorem State.withDivider_gradeList (v : Divider) : (s.withDivider v).gradeList = s.gradeList := rfl
@[simp] theorem State.withDivider_footage (v : Divider) : (s.withDivider v).footage = s.footage := rfl
@[simp] theorem State.withDivider_tracker (v : Divider) : (s.withDivider v).tracker = s.tracker := rfl
@[simp] theorem State.withDivider_lanes (v : Divider) : (s.withDivider v).lanes = s.lanes := rfl
@[simp] theorem State.withDivider_mix (v : Divider) : (s.withDivider v).mix = s.mix := rfl
@[simp] theorem State.withDivider_divider (v : Divider) : (s.withDivider v).divider = v := rfl
@[simp] theorem State.withDivider_detector (v : Divider) : (s.withDivider v).detector = s.detector := rfl
@[simp] theorem State.withDivider_profiles (v : Divider) : (s.withDivider v).profiles = s.profiles := rfl
@[simp] theorem State.withDivider_ring (v : Divider) : (s.withDivider v).ring = s.ring := rfl
@[simp] theorem State.withDivider_store (v : Divider) : (s.withDivider v).store = s.store := rfl
@[simp] theorem State.withDivider_returned (v : Divider) : (s.withDivider v).returned = s.returned := rfl
@[simp] theorem State.withDivider_freeCount (v : Divider) : (s.withDivider v).freeCount = s.freeCount := rfl
@[simp] theorem State.withDivider_pending (v : Divider) : (s.withDivider v).pending = s.pending := rfl
@[simp] theorem State.withDetector_resetAsserted (v : Detector) : (s.withDetector v).resetAsserted = s.resetAsserted := rfl
@[simp] theorem State.withDetector_setupSel (v : Detector) : (s.withDetector v).setupSel = s.setupSel := rfl
@[simp] theorem State.withDetector_partState (v : Detector) : (s.withDetector v).partState = s.partState := rfl
@[simp] theorem State.withDetector_shadow (v : Detector) : (s.withDetector v).shadow = s.shadow := rfl
@[simp] theorem State.withDetector_setup (v : Detector) : (s.withDetector v).setup = s.setup := rfl
@[simp] theorem State.withDetector_reload (v : Detector) : (s.withDetector v).reload = s.reload := rfl
@[simp] theorem State.withDetector_port (v : Detector) : (s.withDetector v).port = s.port := rfl
@[simp] theorem State.withDetector_tables (v : Detector) : (s.withDetector v).tables = s.tables := rfl
@[simp] theorem State.withDetector_gradeList (v : Detector) : (s.withDetector v).gradeList = s.gradeList := rfl
@[simp] theorem State.withDetector_footage (v : Detector) : (s.withDetector v).footage = s.footage := rfl
@[simp] theorem State.withDetector_tracker (v : Detector) : (s.withDetector v).tracker = s.tracker := rfl
@[simp] theorem State.withDetector_lanes (v : Detector) : (s.withDetector v).lanes = s.lanes := rfl
@[simp] theorem State.withDetector_mix (v : Detector) : (s.withDetector v).mix = s.mix := rfl
@[simp] theorem State.withDetector_divider (v : Detector) : (s.withDetector v).divider = s.divider := rfl
@[simp] theorem State.withDetector_detector (v : Detector) : (s.withDetector v).detector = v := rfl
@[simp] theorem State.withDetector_profiles (v : Detector) : (s.withDetector v).profiles = s.profiles := rfl
@[simp] theorem State.withDetector_ring (v : Detector) : (s.withDetector v).ring = s.ring := rfl
@[simp] theorem State.withDetector_store (v : Detector) : (s.withDetector v).store = s.store := rfl
@[simp] theorem State.withDetector_returned (v : Detector) : (s.withDetector v).returned = s.returned := rfl
@[simp] theorem State.withDetector_freeCount (v : Detector) : (s.withDetector v).freeCount = s.freeCount := rfl
@[simp] theorem State.withDetector_pending (v : Detector) : (s.withDetector v).pending = s.pending := rfl
@[simp] theorem State.withProfiles_resetAsserted (v : ProfileStore) : (s.withProfiles v).resetAsserted = s.resetAsserted := rfl
@[simp] theorem State.withProfiles_setupSel (v : ProfileStore) : (s.withProfiles v).setupSel = s.setupSel := rfl
@[simp] theorem State.withProfiles_partState (v : ProfileStore) : (s.withProfiles v).partState = s.partState := rfl
@[simp] theorem State.withProfiles_shadow (v : ProfileStore) : (s.withProfiles v).shadow = s.shadow := rfl
@[simp] theorem State.withProfiles_setup (v : ProfileStore) : (s.withProfiles v).setup = s.setup := rfl
@[simp] theorem State.withProfiles_reload (v : ProfileStore) : (s.withProfiles v).reload = s.reload := rfl
@[simp] theorem State.withProfiles_port (v : ProfileStore) : (s.withProfiles v).port = s.port := rfl
@[simp] theorem State.withProfiles_tables (v : ProfileStore) : (s.withProfiles v).tables = s.tables := rfl
@[simp] theorem State.withProfiles_gradeList (v : ProfileStore) : (s.withProfiles v).gradeList = s.gradeList := rfl
@[simp] theorem State.withProfiles_footage (v : ProfileStore) : (s.withProfiles v).footage = s.footage := rfl
@[simp] theorem State.withProfiles_tracker (v : ProfileStore) : (s.withProfiles v).tracker = s.tracker := rfl
@[simp] theorem State.withProfiles_lanes (v : ProfileStore) : (s.withProfiles v).lanes = s.lanes := rfl
@[simp] theorem State.withProfiles_mix (v : ProfileStore) : (s.withProfiles v).mix = s.mix := rfl
@[simp] theorem State.withProfiles_divider (v : ProfileStore) : (s.withProfiles v).divider = s.divider := rfl
@[simp] theorem State.withProfiles_detector (v : ProfileStore) : (s.withProfiles v).detector = s.detector := rfl
@[simp] theorem State.withProfiles_profiles (v : ProfileStore) : (s.withProfiles v).profiles = v := rfl
@[simp] theorem State.withProfiles_ring (v : ProfileStore) : (s.withProfiles v).ring = s.ring := rfl
@[simp] theorem State.withProfiles_store (v : ProfileStore) : (s.withProfiles v).store = s.store := rfl
@[simp] theorem State.withProfiles_returned (v : ProfileStore) : (s.withProfiles v).returned = s.returned := rfl
@[simp] theorem State.withProfiles_freeCount (v : ProfileStore) : (s.withProfiles v).freeCount = s.freeCount := rfl
@[simp] theorem State.withProfiles_pending (v : ProfileStore) : (s.withProfiles v).pending = s.pending := rfl
@[simp] theorem State.withRing_resetAsserted (v : ReportRing) : (s.withRing v).resetAsserted = s.resetAsserted := rfl
@[simp] theorem State.withRing_setupSel (v : ReportRing) : (s.withRing v).setupSel = s.setupSel := rfl
@[simp] theorem State.withRing_partState (v : ReportRing) : (s.withRing v).partState = s.partState := rfl
@[simp] theorem State.withRing_shadow (v : ReportRing) : (s.withRing v).shadow = s.shadow := rfl
@[simp] theorem State.withRing_setup (v : ReportRing) : (s.withRing v).setup = s.setup := rfl
@[simp] theorem State.withRing_reload (v : ReportRing) : (s.withRing v).reload = s.reload := rfl
@[simp] theorem State.withRing_port (v : ReportRing) : (s.withRing v).port = s.port := rfl
@[simp] theorem State.withRing_tables (v : ReportRing) : (s.withRing v).tables = s.tables := rfl
@[simp] theorem State.withRing_gradeList (v : ReportRing) : (s.withRing v).gradeList = s.gradeList := rfl
@[simp] theorem State.withRing_footage (v : ReportRing) : (s.withRing v).footage = s.footage := rfl
@[simp] theorem State.withRing_tracker (v : ReportRing) : (s.withRing v).tracker = s.tracker := rfl
@[simp] theorem State.withRing_lanes (v : ReportRing) : (s.withRing v).lanes = s.lanes := rfl
@[simp] theorem State.withRing_mix (v : ReportRing) : (s.withRing v).mix = s.mix := rfl
@[simp] theorem State.withRing_divider (v : ReportRing) : (s.withRing v).divider = s.divider := rfl
@[simp] theorem State.withRing_detector (v : ReportRing) : (s.withRing v).detector = s.detector := rfl
@[simp] theorem State.withRing_profiles (v : ReportRing) : (s.withRing v).profiles = s.profiles := rfl
@[simp] theorem State.withRing_ring (v : ReportRing) : (s.withRing v).ring = v := rfl
@[simp] theorem State.withRing_store (v : ReportRing) : (s.withRing v).store = s.store := rfl
@[simp] theorem State.withRing_returned (v : ReportRing) : (s.withRing v).returned = s.returned := rfl
@[simp] theorem State.withRing_freeCount (v : ReportRing) : (s.withRing v).freeCount = s.freeCount := rfl
@[simp] theorem State.withRing_pending (v : ReportRing) : (s.withRing v).pending = s.pending := rfl
@[simp] theorem State.withStore_resetAsserted (v : List Host.Cell) : (s.withStore v).resetAsserted = s.resetAsserted := rfl
@[simp] theorem State.withStore_setupSel (v : List Host.Cell) : (s.withStore v).setupSel = s.setupSel := rfl
@[simp] theorem State.withStore_partState (v : List Host.Cell) : (s.withStore v).partState = s.partState := rfl
@[simp] theorem State.withStore_shadow (v : List Host.Cell) : (s.withStore v).shadow = s.shadow := rfl
@[simp] theorem State.withStore_setup (v : List Host.Cell) : (s.withStore v).setup = s.setup := rfl
@[simp] theorem State.withStore_reload (v : List Host.Cell) : (s.withStore v).reload = s.reload := rfl
@[simp] theorem State.withStore_port (v : List Host.Cell) : (s.withStore v).port = s.port := rfl
@[simp] theorem State.withStore_tables (v : List Host.Cell) : (s.withStore v).tables = s.tables := rfl
@[simp] theorem State.withStore_gradeList (v : List Host.Cell) : (s.withStore v).gradeList = s.gradeList := rfl
@[simp] theorem State.withStore_footage (v : List Host.Cell) : (s.withStore v).footage = s.footage := rfl
@[simp] theorem State.withStore_tracker (v : List Host.Cell) : (s.withStore v).tracker = s.tracker := rfl
@[simp] theorem State.withStore_lanes (v : List Host.Cell) : (s.withStore v).lanes = s.lanes := rfl
@[simp] theorem State.withStore_mix (v : List Host.Cell) : (s.withStore v).mix = s.mix := rfl
@[simp] theorem State.withStore_divider (v : List Host.Cell) : (s.withStore v).divider = s.divider := rfl
@[simp] theorem State.withStore_detector (v : List Host.Cell) : (s.withStore v).detector = s.detector := rfl
@[simp] theorem State.withStore_profiles (v : List Host.Cell) : (s.withStore v).profiles = s.profiles := rfl
@[simp] theorem State.withStore_ring (v : List Host.Cell) : (s.withStore v).ring = s.ring := rfl
@[simp] theorem State.withStore_store (v : List Host.Cell) : (s.withStore v).store = v := rfl
@[simp] theorem State.withStore_returned (v : List Host.Cell) : (s.withStore v).returned = s.returned := rfl
@[simp] theorem State.withStore_freeCount (v : List Host.Cell) : (s.withStore v).freeCount = s.freeCount := rfl
@[simp] theorem State.withStore_pending (v : List Host.Cell) : (s.withStore v).pending = s.pending := rfl
@[simp] theorem State.withReturned_resetAsserted (v : List ReadReturn) : (s.withReturned v).resetAsserted = s.resetAsserted := rfl
@[simp] theorem State.withReturned_setupSel (v : List ReadReturn) : (s.withReturned v).setupSel = s.setupSel := rfl
@[simp] theorem State.withReturned_partState (v : List ReadReturn) : (s.withReturned v).partState = s.partState := rfl
@[simp] theorem State.withReturned_shadow (v : List ReadReturn) : (s.withReturned v).shadow = s.shadow := rfl
@[simp] theorem State.withReturned_setup (v : List ReadReturn) : (s.withReturned v).setup = s.setup := rfl
@[simp] theorem State.withReturned_reload (v : List ReadReturn) : (s.withReturned v).reload = s.reload := rfl
@[simp] theorem State.withReturned_port (v : List ReadReturn) : (s.withReturned v).port = s.port := rfl
@[simp] theorem State.withReturned_tables (v : List ReadReturn) : (s.withReturned v).tables = s.tables := rfl
@[simp] theorem State.withReturned_gradeList (v : List ReadReturn) : (s.withReturned v).gradeList = s.gradeList := rfl
@[simp] theorem State.withReturned_footage (v : List ReadReturn) : (s.withReturned v).footage = s.footage := rfl
@[simp] theorem State.withReturned_tracker (v : List ReadReturn) : (s.withReturned v).tracker = s.tracker := rfl
@[simp] theorem State.withReturned_lanes (v : List ReadReturn) : (s.withReturned v).lanes = s.lanes := rfl
@[simp] theorem State.withReturned_mix (v : List ReadReturn) : (s.withReturned v).mix = s.mix := rfl
@[simp] theorem State.withReturned_divider (v : List ReadReturn) : (s.withReturned v).divider = s.divider := rfl
@[simp] theorem State.withReturned_detector (v : List ReadReturn) : (s.withReturned v).detector = s.detector := rfl
@[simp] theorem State.withReturned_profiles (v : List ReadReturn) : (s.withReturned v).profiles = s.profiles := rfl
@[simp] theorem State.withReturned_ring (v : List ReadReturn) : (s.withReturned v).ring = s.ring := rfl
@[simp] theorem State.withReturned_store (v : List ReadReturn) : (s.withReturned v).store = s.store := rfl
@[simp] theorem State.withReturned_returned (v : List ReadReturn) : (s.withReturned v).returned = v := rfl
@[simp] theorem State.withReturned_freeCount (v : List ReadReturn) : (s.withReturned v).freeCount = s.freeCount := rfl
@[simp] theorem State.withReturned_pending (v : List ReadReturn) : (s.withReturned v).pending = s.pending := rfl
@[simp] theorem State.withFreeCount_resetAsserted (v : Nat) : (s.withFreeCount v).resetAsserted = s.resetAsserted := rfl
@[simp] theorem State.withFreeCount_setupSel (v : Nat) : (s.withFreeCount v).setupSel = s.setupSel := rfl
@[simp] theorem State.withFreeCount_partState (v : Nat) : (s.withFreeCount v).partState = s.partState := rfl
@[simp] theorem State.withFreeCount_shadow (v : Nat) : (s.withFreeCount v).shadow = s.shadow := rfl
@[simp] theorem State.withFreeCount_setup (v : Nat) : (s.withFreeCount v).setup = s.setup := rfl
@[simp] theorem State.withFreeCount_reload (v : Nat) : (s.withFreeCount v).reload = s.reload := rfl
@[simp] theorem State.withFreeCount_port (v : Nat) : (s.withFreeCount v).port = s.port := rfl
@[simp] theorem State.withFreeCount_tables (v : Nat) : (s.withFreeCount v).tables = s.tables := rfl
@[simp] theorem State.withFreeCount_gradeList (v : Nat) : (s.withFreeCount v).gradeList = s.gradeList := rfl
@[simp] theorem State.withFreeCount_footage (v : Nat) : (s.withFreeCount v).footage = s.footage := rfl
@[simp] theorem State.withFreeCount_tracker (v : Nat) : (s.withFreeCount v).tracker = s.tracker := rfl
@[simp] theorem State.withFreeCount_lanes (v : Nat) : (s.withFreeCount v).lanes = s.lanes := rfl
@[simp] theorem State.withFreeCount_mix (v : Nat) : (s.withFreeCount v).mix = s.mix := rfl
@[simp] theorem State.withFreeCount_divider (v : Nat) : (s.withFreeCount v).divider = s.divider := rfl
@[simp] theorem State.withFreeCount_detector (v : Nat) : (s.withFreeCount v).detector = s.detector := rfl
@[simp] theorem State.withFreeCount_profiles (v : Nat) : (s.withFreeCount v).profiles = s.profiles := rfl
@[simp] theorem State.withFreeCount_ring (v : Nat) : (s.withFreeCount v).ring = s.ring := rfl
@[simp] theorem State.withFreeCount_store (v : Nat) : (s.withFreeCount v).store = s.store := rfl
@[simp] theorem State.withFreeCount_returned (v : Nat) : (s.withFreeCount v).returned = s.returned := rfl
@[simp] theorem State.withFreeCount_freeCount (v : Nat) : (s.withFreeCount v).freeCount = v := rfl
@[simp] theorem State.withFreeCount_pending (v : Nat) : (s.withFreeCount v).pending = s.pending := rfl
@[simp] theorem State.withPending_resetAsserted (v : List Instr) : (s.withPending v).resetAsserted = s.resetAsserted := rfl
@[simp] theorem State.withPending_setupSel (v : List Instr) : (s.withPending v).setupSel = s.setupSel := rfl
@[simp] theorem State.withPending_partState (v : List Instr) : (s.withPending v).partState = s.partState := rfl
@[simp] theorem State.withPending_shadow (v : List Instr) : (s.withPending v).shadow = s.shadow := rfl
@[simp] theorem State.withPending_setup (v : List Instr) : (s.withPending v).setup = s.setup := rfl
@[simp] theorem State.withPending_reload (v : List Instr) : (s.withPending v).reload = s.reload := rfl
@[simp] theorem State.withPending_port (v : List Instr) : (s.withPending v).port = s.port := rfl
@[simp] theorem State.withPending_tables (v : List Instr) : (s.withPending v).tables = s.tables := rfl
@[simp] theorem State.withPending_gradeList (v : List Instr) : (s.withPending v).gradeList = s.gradeList := rfl
@[simp] theorem State.withPending_footage (v : List Instr) : (s.withPending v).footage = s.footage := rfl
@[simp] theorem State.withPending_tracker (v : List Instr) : (s.withPending v).tracker = s.tracker := rfl
@[simp] theorem State.withPending_lanes (v : List Instr) : (s.withPending v).lanes = s.lanes := rfl
@[simp] theorem State.withPending_mix (v : List Instr) : (s.withPending v).mix = s.mix := rfl
@[simp] theorem State.withPending_divider (v : List Instr) : (s.withPending v).divider = s.divider := rfl
@[simp] theorem State.withPending_detector (v : List Instr) : (s.withPending v).detector = s.detector := rfl
@[simp] theorem State.withPending_profiles (v : List Instr) : (s.withPending v).profiles = s.profiles := rfl
@[simp] theorem State.withPending_ring (v : List Instr) : (s.withPending v).ring = s.ring := rfl
@[simp] theorem State.withPending_store (v : List Instr) : (s.withPending v).store = s.store := rfl
@[simp] theorem State.withPending_returned (v : List Instr) : (s.withPending v).returned = s.returned := rfl
@[simp] theorem State.withPending_freeCount (v : List Instr) : (s.withPending v).freeCount = s.freeCount := rfl
@[simp] theorem State.withPending_pending (v : List Instr) : (s.withPending v).pending = v := rfl

end Sys2Proof.Machine
end

