-- ==== Sys2Proof/Laws/Frame.lean ====
section
/-! SUPPORT. What each shared operation leaves as it was: one lemma for each, a conjunction over the fields of State that it
never touches. As simp lemmas they let a proof pass an operation by without unfolding it. -/

namespace Sys2Proof.Machine

/-! ## Shared operations -/

@[simp] theorem stage_frame (r : Record) (s : State) :
    (stage r s).resetAsserted = s.resetAsserted ∧ (stage r s).setupSel = s.setupSel ∧
    (stage r s).partState = s.partState ∧ (stage r s).shadow = s.shadow ∧ (stage r s).setup = s.setup ∧
    (stage r s).reload = s.reload ∧ (stage r s).port = s.port ∧ (stage r s).tables = s.tables ∧
    (stage r s).gradeList = s.gradeList ∧ (stage r s).footage = s.footage ∧ (stage r s).tracker = s.tracker ∧
    (stage r s).lanes = s.lanes ∧ (stage r s).mix = s.mix ∧ (stage r s).divider = s.divider ∧
    (stage r s).detector = s.detector ∧ (stage r s).profiles = s.profiles ∧ (stage r s).store = s.store ∧
    (stage r s).returned = s.returned ∧ (stage r s).freeCount = s.freeCount ∧ (stage r s).pending = s.pending := by
  unfold stage
  dsimp only
  (repeat' split) <;> simp

@[simp] theorem stageFault_frame (f : FaultReport) (s : State) :
    (stageFault f s).resetAsserted = s.resetAsserted ∧ (stageFault f s).setupSel = s.setupSel ∧
    (stageFault f s).partState = s.partState ∧ (stageFault f s).shadow = s.shadow ∧
    (stageFault f s).setup = s.setup ∧ (stageFault f s).reload = s.reload ∧ (stageFault f s).port = s.port ∧
    (stageFault f s).tables = s.tables ∧ (stageFault f s).gradeList = s.gradeList ∧
    (stageFault f s).footage = s.footage ∧ (stageFault f s).tracker = s.tracker ∧ (stageFault f s).lanes = s.lanes ∧
    (stageFault f s).mix = s.mix ∧ (stageFault f s).divider = s.divider ∧ (stageFault f s).detector = s.detector ∧
    (stageFault f s).profiles = s.profiles ∧ (stageFault f s).store = s.store ∧
    (stageFault f s).returned = s.returned ∧ (stageFault f s).freeCount = s.freeCount ∧
    (stageFault f s).pending = s.pending := by
  unfold stageFault
  (repeat' split) <;> simp

@[simp] theorem reconsiderAttn_frame (s : State) :
    (reconsiderAttn s).resetAsserted = s.resetAsserted ∧ (reconsiderAttn s).setupSel = s.setupSel ∧
    (reconsiderAttn s).partState = s.partState ∧ (reconsiderAttn s).shadow = s.shadow ∧
    (reconsiderAttn s).setup = s.setup ∧ (reconsiderAttn s).reload = s.reload ∧ (reconsiderAttn s).port = s.port ∧
    (reconsiderAttn s).tables = s.tables ∧ (reconsiderAttn s).gradeList = s.gradeList ∧
    (reconsiderAttn s).footage = s.footage ∧ (reconsiderAttn s).tracker = s.tracker ∧
    (reconsiderAttn s).lanes = s.lanes ∧ (reconsiderAttn s).mix = s.mix ∧ (reconsiderAttn s).divider = s.divider ∧
    (reconsiderAttn s).detector = s.detector ∧ (reconsiderAttn s).profiles = s.profiles ∧
    (reconsiderAttn s).store = s.store ∧ (reconsiderAttn s).returned = s.returned ∧
    (reconsiderAttn s).freeCount = s.freeCount ∧ (reconsiderAttn s).pending = s.pending := by
  unfold reconsiderAttn
  dsimp only
  (repeat' split) <;> simp

@[simp] theorem requestDivision_frame (c : Client) (n d : Nat) (s : State) :
    (requestDivision c n d s).resetAsserted = s.resetAsserted ∧ (requestDivision c n d s).setupSel = s.setupSel ∧
    (requestDivision c n d s).partState = s.partState ∧ (requestDivision c n d s).shadow = s.shadow ∧
    (requestDivision c n d s).setup = s.setup ∧ (requestDivision c n d s).reload = s.reload ∧
    (requestDivision c n d s).port = s.port ∧ (requestDivision c n d s).tables = s.tables ∧
    (requestDivision c n d s).gradeList = s.gradeList ∧ (requestDivision c n d s).footage = s.footage ∧
    (requestDivision c n d s).tracker = s.tracker ∧ (requestDivision c n d s).lanes = s.lanes ∧
    (requestDivision c n d s).mix = s.mix ∧ (requestDivision c n d s).detector = s.detector ∧
    (requestDivision c n d s).profiles = s.profiles ∧ (requestDivision c n d s).ring = s.ring ∧
    (requestDivision c n d s).store = s.store ∧ (requestDivision c n d s).returned = s.returned ∧
    (requestDivision c n d s).freeCount = s.freeCount ∧ (requestDivision c n d s).pending = s.pending := by
  unfold requestDivision
  (repeat' split) <;> simp

@[simp] theorem discardReference_frame (s : State) :
    (discardReference s).resetAsserted = s.resetAsserted ∧ (discardReference s).setupSel = s.setupSel ∧
    (discardReference s).partState = s.partState ∧ (discardReference s).shadow = s.shadow ∧
    (discardReference s).setup = s.setup ∧ (discardReference s).reload = s.reload ∧
    (discardReference s).port = s.port ∧ (discardReference s).tables = s.tables ∧
    (discardReference s).gradeList = s.gradeList ∧ (discardReference s).footage = s.footage ∧
    (discardReference s).tracker = s.tracker ∧ (discardReference s).lanes = s.lanes ∧
    (discardReference s).mix = s.mix ∧ (discardReference s).divider = s.divider ∧
    (discardReference s).profiles = s.profiles ∧ (discardReference s).ring = s.ring ∧
    (discardReference s).store = s.store ∧ (discardReference s).returned = s.returned ∧
    (discardReference s).freeCount = s.freeCount ∧ (discardReference s).pending = s.pending := by
  unfold discardReference
  dsimp only
  (repeat' split) <;> simp

@[simp] theorem clearDetectorLists_frame (s : State) :
    (clearDetectorLists s).resetAsserted = s.resetAsserted ∧ (clearDetectorLists s).setupSel = s.setupSel ∧
    (clearDetectorLists s).partState = s.partState ∧ (clearDetectorLists s).shadow = s.shadow ∧
    (clearDetectorLists s).setup = s.setup ∧ (clearDetectorLists s).reload = s.reload ∧
    (clearDetectorLists s).port = s.port ∧ (clearDetectorLists s).tables = s.tables ∧
    (clearDetectorLists s).gradeList = s.gradeList ∧ (clearDetectorLists s).footage = s.footage ∧
    (clearDetectorLists s).tracker = s.tracker ∧ (clearDetectorLists s).lanes = s.lanes ∧
    (clearDetectorLists s).mix = s.mix ∧ (clearDetectorLists s).divider = s.divider ∧
    (clearDetectorLists s).profiles = s.profiles ∧ (clearDetectorLists s).ring = s.ring ∧
    (clearDetectorLists s).store = s.store ∧ (clearDetectorLists s).returned = s.returned ∧
    (clearDetectorLists s).freeCount = s.freeCount ∧ (clearDetectorLists s).pending = s.pending := by
  unfold clearDetectorLists
  dsimp only
  (repeat' split) <;> simp

/-! ## Table shadows -/

@[simp] theorem stageTableWord_frame (ref : ItemRef) (o : Nat) (w : Word) (s : State) :
    (stageTableWord ref o w s).resetAsserted = s.resetAsserted ∧ (stageTableWord ref o w s).setupSel = s.setupSel ∧
    (stageTableWord ref o w s).partState = s.partState ∧ (stageTableWord ref o w s).shadow = s.shadow ∧
    (stageTableWord ref o w s).setup = s.setup ∧ (stageTableWord ref o w s).reload = s.reload ∧
    (stageTableWord ref o w s).port = s.port ∧ (stageTableWord ref o w s).gradeList = s.gradeList ∧
    (stageTableWord ref o w s).footage = s.footage ∧ (stageTableWord ref o w s).tracker = s.tracker ∧
    (stageTableWord ref o w s).lanes = s.lanes ∧ (stageTableWord ref o w s).mix = s.mix ∧
    (stageTableWord ref o w s).divider = s.divider ∧ (stageTableWord ref o w s).detector = s.detector ∧
    (stageTableWord ref o w s).profiles = s.profiles ∧ (stageTableWord ref o w s).ring = s.ring ∧
    (stageTableWord ref o w s).store = s.store ∧ (stageTableWord ref o w s).returned = s.returned ∧
    (stageTableWord ref o w s).freeCount = s.freeCount ∧ (stageTableWord ref o w s).pending = s.pending := by
  unfold stageTableWord
  dsimp only
  (repeat' split) <;> simp

@[simp] theorem commitSlot_frame (b : Bool) (i : Fin 512) (w : Word) (s : State) :
    (commitSlot b i w s).resetAsserted = s.resetAsserted ∧ (commitSlot b i w s).setupSel = s.setupSel ∧
    (commitSlot b i w s).partState = s.partState ∧ (commitSlot b i w s).shadow = s.shadow ∧
    (commitSlot b i w s).setup = s.setup ∧ (commitSlot b i w s).reload = s.reload ∧
    (commitSlot b i w s).port = s.port ∧ (commitSlot b i w s).footage = s.footage ∧
    (commitSlot b i w s).tracker = s.tracker ∧ (commitSlot b i w s).lanes = s.lanes ∧
    (commitSlot b i w s).mix = s.mix ∧ (commitSlot b i w s).divider = s.divider ∧
    (commitSlot b i w s).detector = s.detector ∧ (commitSlot b i w s).profiles = s.profiles ∧
    (commitSlot b i w s).store = s.store ∧ (commitSlot b i w s).returned = s.returned ∧
    (commitSlot b i w s).freeCount = s.freeCount ∧ (commitSlot b i w s).pending = s.pending := by
  unfold commitSlot
  dsimp only
  (repeat' split) <;> simp

@[simp] theorem commitItem_frame (b : Bool) (ref : ItemRef) (w : Word) (s : State) :
    (commitItem b ref w s).resetAsserted = s.resetAsserted ∧ (commitItem b ref w s).setupSel = s.setupSel ∧
    (commitItem b ref w s).partState = s.partState ∧ (commitItem b ref w s).shadow = s.shadow ∧
    (commitItem b ref w s).setup = s.setup ∧ (commitItem b ref w s).reload = s.reload ∧
    (commitItem b ref w s).port = s.port ∧ (commitItem b ref w s).footage = s.footage ∧
    (commitItem b ref w s).tracker = s.tracker ∧ (commitItem b ref w s).lanes = s.lanes ∧
    (commitItem b ref w s).mix = s.mix ∧ (commitItem b ref w s).divider = s.divider ∧
    (commitItem b ref w s).detector = s.detector ∧ (commitItem b ref w s).profiles = s.profiles ∧
    (commitItem b ref w s).store = s.store ∧ (commitItem b ref w s).returned = s.returned ∧
    (commitItem b ref w s).freeCount = s.freeCount ∧ (commitItem b ref w s).pending = s.pending := by
  unfold commitItem
  dsimp only
  (repeat' split) <;> simp

@[simp] theorem captureTableWord_frame (ref : ItemRef) (o : Nat) (w : Word) (s : State) :
    (captureTableWord ref o w s).resetAsserted = s.resetAsserted ∧
    (captureTableWord ref o w s).setupSel = s.setupSel ∧ (captureTableWord ref o w s).partState = s.partState ∧
    (captureTableWord ref o w s).shadow = s.shadow ∧ (captureTableWord ref o w s).setup = s.setup ∧
    (captureTableWord ref o w s).reload = s.reload ∧ (captureTableWord ref o w s).port = s.port ∧
    (captureTableWord ref o w s).footage = s.footage ∧ (captureTableWord ref o w s).tracker = s.tracker ∧
    (captureTableWord ref o w s).lanes = s.lanes ∧ (captureTableWord ref o w s).mix = s.mix ∧
    (captureTableWord ref o w s).divider = s.divider ∧ (captureTableWord ref o w s).detector = s.detector ∧
    (captureTableWord ref o w s).profiles = s.profiles ∧ (captureTableWord ref o w s).store = s.store ∧
    (captureTableWord ref o w s).returned = s.returned ∧ (captureTableWord ref o w s).freeCount = s.freeCount ∧
    (captureTableWord ref o w s).pending = s.pending := by
  unfold captureTableWord
  (repeat' split) <;> simp

@[simp] theorem clearTable_frame (t : TableId) (s : State) :
    (clearTable t s).resetAsserted = s.resetAsserted ∧ (clearTable t s).setupSel = s.setupSel ∧
    (clearTable t s).partState = s.partState ∧ (clearTable t s).shadow = s.shadow ∧
    (clearTable t s).setup = s.setup ∧ (clearTable t s).reload = s.reload ∧ (clearTable t s).port = s.port ∧
    (clearTable t s).footage = s.footage ∧ (clearTable t s).tracker = s.tracker ∧ (clearTable t s).lanes = s.lanes ∧
    (clearTable t s).mix = s.mix ∧ (clearTable t s).divider = s.divider ∧ (clearTable t s).detector = s.detector ∧
    (clearTable t s).profiles = s.profiles ∧ (clearTable t s).ring = s.ring ∧ (clearTable t s).store = s.store ∧
    (clearTable t s).returned = s.returned ∧ (clearTable t s).freeCount = s.freeCount ∧
    (clearTable t s).pending = s.pending := by
  unfold clearTable
  dsimp only
  (repeat' split) <;> simp

@[simp] theorem clearAllTables_frame (s : State) :
    (clearAllTables s).resetAsserted = s.resetAsserted ∧ (clearAllTables s).setupSel = s.setupSel ∧
    (clearAllTables s).partState = s.partState ∧ (clearAllTables s).shadow = s.shadow ∧
    (clearAllTables s).setup = s.setup ∧ (clearAllTables s).reload = s.reload ∧ (clearAllTables s).port = s.port ∧
    (clearAllTables s).footage = s.footage ∧ (clearAllTables s).tracker = s.tracker ∧
    (clearAllTables s).lanes = s.lanes ∧ (clearAllTables s).mix = s.mix ∧ (clearAllTables s).divider = s.divider ∧
    (clearAllTables s).detector = s.detector ∧ (clearAllTables s).profiles = s.profiles ∧
    (clearAllTables s).ring = s.ring ∧ (clearAllTables s).store = s.store ∧
    (clearAllTables s).returned = s.returned ∧ (clearAllTables s).freeCount = s.freeCount ∧
    (clearAllTables s).pending = s.pending := by
  unfold clearAllTables
  (repeat' split) <;> simp

/-! ## Mix Stage and Cut Detector -/

@[simp] theorem prepareMix_fst_frame (l : Lookup) (s : State) :
    ((prepareMix l s).1).resetAsserted = s.resetAsserted ∧ ((prepareMix l s).1).setupSel = s.setupSel ∧
    ((prepareMix l s).1).partState = s.partState ∧ ((prepareMix l s).1).shadow = s.shadow ∧
    ((prepareMix l s).1).setup = s.setup ∧ ((prepareMix l s).1).reload = s.reload ∧
    ((prepareMix l s).1).port = s.port ∧ ((prepareMix l s).1).tables = s.tables ∧
    ((prepareMix l s).1).gradeList = s.gradeList ∧ ((prepareMix l s).1).footage = s.footage ∧
    ((prepareMix l s).1).tracker = s.tracker ∧ ((prepareMix l s).1).lanes = s.lanes ∧
    ((prepareMix l s).1).detector = s.detector ∧ ((prepareMix l s).1).profiles = s.profiles ∧
    ((prepareMix l s).1).ring = s.ring ∧ ((prepareMix l s).1).store = s.store ∧
    ((prepareMix l s).1).returned = s.returned ∧ ((prepareMix l s).1).freeCount = s.freeCount ∧
    ((prepareMix l s).1).pending = s.pending := by
  unfold prepareMix
  dsimp only
  (repeat' split) <;> simp

@[simp] theorem takeMixResult_frame (d q : Nat) (s : State) :
    (takeMixResult d q s).resetAsserted = s.resetAsserted ∧ (takeMixResult d q s).setupSel = s.setupSel ∧
    (takeMixResult d q s).partState = s.partState ∧ (takeMixResult d q s).shadow = s.shadow ∧
    (takeMixResult d q s).setup = s.setup ∧ (takeMixResult d q s).reload = s.reload ∧
    (takeMixResult d q s).port = s.port ∧ (takeMixResult d q s).tables = s.tables ∧
    (takeMixResult d q s).gradeList = s.gradeList ∧ (takeMixResult d q s).footage = s.footage ∧
    (takeMixResult d q s).tracker = s.tracker ∧ (takeMixResult d q s).lanes = s.lanes ∧
    (takeMixResult d q s).divider = s.divider ∧ (takeMixResult d q s).detector = s.detector ∧
    (takeMixResult d q s).profiles = s.profiles ∧ (takeMixResult d q s).ring = s.ring ∧
    (takeMixResult d q s).store = s.store ∧ (takeMixResult d q s).returned = s.returned ∧
    (takeMixResult d q s).freeCount = s.freeCount ∧ (takeMixResult d q s).pending = s.pending := by
  unfold takeMixResult
  dsimp only
  (repeat' split) <;> simp

@[simp] theorem endMixWait_frame (s : State) :
    (endMixWait s).resetAsserted = s.resetAsserted ∧ (endMixWait s).setupSel = s.setupSel ∧
    (endMixWait s).partState = s.partState ∧ (endMixWait s).shadow = s.shadow ∧ (endMixWait s).setup = s.setup ∧
    (endMixWait s).reload = s.reload ∧ (endMixWait s).port = s.port ∧ (endMixWait s).tables = s.tables ∧
    (endMixWait s).gradeList = s.gradeList ∧ (endMixWait s).footage = s.footage ∧
    (endMixWait s).tracker = s.tracker ∧ (endMixWait s).lanes = s.lanes ∧ (endMixWait s).divider = s.divider ∧
    (endMixWait s).detector = s.detector ∧ (endMixWait s).profiles = s.profiles ∧ (endMixWait s).ring = s.ring ∧
    (endMixWait s).store = s.store ∧ (endMixWait s).returned = s.returned ∧ (endMixWait s).freeCount = s.freeCount ∧
    (endMixWait s).pending = s.pending := by
  unfold endMixWait
  dsimp only
  (repeat' split) <;> simp

@[simp] theorem accumulate_frame (x y : Nat) (p : Rgb Int) (s : State) :
    (accumulate x y p s).resetAsserted = s.resetAsserted ∧ (accumulate x y p s).setupSel = s.setupSel ∧
    (accumulate x y p s).partState = s.partState ∧ (accumulate x y p s).shadow = s.shadow ∧
    (accumulate x y p s).setup = s.setup ∧ (accumulate x y p s).reload = s.reload ∧
    (accumulate x y p s).port = s.port ∧ (accumulate x y p s).tables = s.tables ∧
    (accumulate x y p s).gradeList = s.gradeList ∧ (accumulate x y p s).footage = s.footage ∧
    (accumulate x y p s).tracker = s.tracker ∧ (accumulate x y p s).lanes = s.lanes ∧
    (accumulate x y p s).mix = s.mix ∧ (accumulate x y p s).divider = s.divider ∧
    (accumulate x y p s).profiles = s.profiles ∧ (accumulate x y p s).ring = s.ring ∧
    (accumulate x y p s).store = s.store ∧ (accumulate x y p s).returned = s.returned ∧
    (accumulate x y p s).freeCount = s.freeCount ∧ (accumulate x y p s).pending = s.pending := by
  unfold accumulate
  dsimp only
  (repeat' split) <;> simp

@[simp] theorem clearSums_frame (s : State) :
    (clearSums s).resetAsserted = s.resetAsserted ∧ (clearSums s).setupSel = s.setupSel ∧
    (clearSums s).partState = s.partState ∧ (clearSums s).shadow = s.shadow ∧ (clearSums s).setup = s.setup ∧
    (clearSums s).reload = s.reload ∧ (clearSums s).port = s.port ∧ (clearSums s).tables = s.tables ∧
    (clearSums s).gradeList = s.gradeList ∧ (clearSums s).footage = s.footage ∧ (clearSums s).tracker = s.tracker ∧
    (clearSums s).lanes = s.lanes ∧ (clearSums s).mix = s.mix ∧ (clearSums s).divider = s.divider ∧
    (clearSums s).profiles = s.profiles ∧ (clearSums s).ring = s.ring ∧ (clearSums s).store = s.store ∧
    (clearSums s).returned = s.returned ∧ (clearSums s).freeCount = s.freeCount ∧ (clearSums s).pending = s.pending := by
  unfold clearSums
  dsimp only
  (repeat' split) <;> simp

@[simp] theorem reportCut_frame (f : OpenFrame) (n : Nat) (s : State) :
    (reportCut f n s).resetAsserted = s.resetAsserted ∧ (reportCut f n s).setupSel = s.setupSel ∧
    (reportCut f n s).partState = s.partState ∧ (reportCut f n s).shadow = s.shadow ∧
    (reportCut f n s).setup = s.setup ∧ (reportCut f n s).reload = s.reload ∧ (reportCut f n s).port = s.port ∧
    (reportCut f n s).tables = s.tables ∧ (reportCut f n s).gradeList = s.gradeList ∧
    (reportCut f n s).footage = s.footage ∧ (reportCut f n s).tracker = s.tracker ∧
    (reportCut f n s).lanes = s.lanes ∧ (reportCut f n s).mix = s.mix ∧ (reportCut f n s).divider = s.divider ∧
    (reportCut f n s).profiles = s.profiles ∧ (reportCut f n s).store = s.store ∧
    (reportCut f n s).returned = s.returned ∧ (reportCut f n s).freeCount = s.freeCount ∧
    (reportCut f n s).pending = s.pending := by
  unfold reportCut
  dsimp only
  (repeat' split) <;> simp

@[simp] theorem takeReference_frame (f : OpenFrame) (b : Bool) (m : Vector Nat 384) (s : State) :
    (takeReference f b m s).resetAsserted = s.resetAsserted ∧ (takeReference f b m s).setupSel = s.setupSel ∧
    (takeReference f b m s).partState = s.partState ∧ (takeReference f b m s).shadow = s.shadow ∧
    (takeReference f b m s).setup = s.setup ∧ (takeReference f b m s).reload = s.reload ∧
    (takeReference f b m s).port = s.port ∧ (takeReference f b m s).tables = s.tables ∧
    (takeReference f b m s).gradeList = s.gradeList ∧ (takeReference f b m s).footage = s.footage ∧
    (takeReference f b m s).tracker = s.tracker ∧ (takeReference f b m s).lanes = s.lanes ∧
    (takeReference f b m s).mix = s.mix ∧ (takeReference f b m s).divider = s.divider ∧
    (takeReference f b m s).profiles = s.profiles ∧ (takeReference f b m s).ring = s.ring ∧
    (takeReference f b m s).store = s.store ∧ (takeReference f b m s).returned = s.returned ∧
    (takeReference f b m s).freeCount = s.freeCount ∧ (takeReference f b m s).pending = s.pending := by
  unfold takeReference
  dsimp only
  (repeat' split) <;> simp

@[simp] theorem judgeFrame_fst_frame (f : OpenFrame) (b : Bool) (s : State) :
    ((judgeFrame f b s).1).resetAsserted = s.resetAsserted ∧ ((judgeFrame f b s).1).setupSel = s.setupSel ∧
    ((judgeFrame f b s).1).partState = s.partState ∧ ((judgeFrame f b s).1).shadow = s.shadow ∧
    ((judgeFrame f b s).1).setup = s.setup ∧ ((judgeFrame f b s).1).reload = s.reload ∧
    ((judgeFrame f b s).1).port = s.port ∧ ((judgeFrame f b s).1).tables = s.tables ∧
    ((judgeFrame f b s).1).gradeList = s.gradeList ∧ ((judgeFrame f b s).1).footage = s.footage ∧
    ((judgeFrame f b s).1).tracker = s.tracker ∧ ((judgeFrame f b s).1).lanes = s.lanes ∧
    ((judgeFrame f b s).1).mix = s.mix ∧ ((judgeFrame f b s).1).divider = s.divider ∧
    ((judgeFrame f b s).1).profiles = s.profiles ∧ ((judgeFrame f b s).1).store = s.store ∧
    ((judgeFrame f b s).1).returned = s.returned ∧ ((judgeFrame f b s).1).freeCount = s.freeCount ∧
    ((judgeFrame f b s).1).pending = s.pending := by
  unfold judgeFrame
  dsimp only
  (repeat' split) <;> simp

@[simp] theorem requestRecip_frame (s : State) :
    (requestRecip s).resetAsserted = s.resetAsserted ∧ (requestRecip s).setupSel = s.setupSel ∧
    (requestRecip s).partState = s.partState ∧ (requestRecip s).shadow = s.shadow ∧
    (requestRecip s).setup = s.setup ∧ (requestRecip s).reload = s.reload ∧ (requestRecip s).port = s.port ∧
    (requestRecip s).tables = s.tables ∧ (requestRecip s).gradeList = s.gradeList ∧
    (requestRecip s).footage = s.footage ∧ (requestRecip s).tracker = s.tracker ∧ (requestRecip s).lanes = s.lanes ∧
    (requestRecip s).mix = s.mix ∧ (requestRecip s).profiles = s.profiles ∧ (requestRecip s).ring = s.ring ∧
    (requestRecip s).store = s.store ∧ (requestRecip s).returned = s.returned ∧
    (requestRecip s).freeCount = s.freeCount ∧ (requestRecip s).pending = s.pending := by
  unfold requestRecip
  dsimp only
  (repeat' split) <;> simp

@[simp] theorem takeRecipResult_frame (d q : Nat) (s : State) :
    (takeRecipResult d q s).resetAsserted = s.resetAsserted ∧ (takeRecipResult d q s).setupSel = s.setupSel ∧
    (takeRecipResult d q s).partState = s.partState ∧ (takeRecipResult d q s).shadow = s.shadow ∧
    (takeRecipResult d q s).setup = s.setup ∧ (takeRecipResult d q s).reload = s.reload ∧
    (takeRecipResult d q s).port = s.port ∧ (takeRecipResult d q s).tables = s.tables ∧
    (takeRecipResult d q s).gradeList = s.gradeList ∧ (takeRecipResult d q s).footage = s.footage ∧
    (takeRecipResult d q s).tracker = s.tracker ∧ (takeRecipResult d q s).lanes = s.lanes ∧
    (takeRecipResult d q s).mix = s.mix ∧ (takeRecipResult d q s).divider = s.divider ∧
    (takeRecipResult d q s).profiles = s.profiles ∧ (takeRecipResult d q s).ring = s.ring ∧
    (takeRecipResult d q s).store = s.store ∧ (takeRecipResult d q s).returned = s.returned ∧
    (takeRecipResult d q s).freeCount = s.freeCount ∧ (takeRecipResult d q s).pending = s.pending := by
  unfold takeRecipResult
  dsimp only
  (repeat' split) <;> simp

/-! ## Footage Counter -/

@[simp] theorem stageTransport_frame (c : TransportCauses) (s : State) :
    (stageTransport c s).resetAsserted = s.resetAsserted ∧ (stageTransport c s).setupSel = s.setupSel ∧
    (stageTransport c s).partState = s.partState ∧ (stageTransport c s).shadow = s.shadow ∧
    (stageTransport c s).setup = s.setup ∧ (stageTransport c s).reload = s.reload ∧
    (stageTransport c s).port = s.port ∧ (stageTransport c s).tables = s.tables ∧
    (stageTransport c s).gradeList = s.gradeList ∧ (stageTransport c s).footage = s.footage ∧
    (stageTransport c s).tracker = s.tracker ∧ (stageTransport c s).lanes = s.lanes ∧
    (stageTransport c s).mix = s.mix ∧ (stageTransport c s).divider = s.divider ∧
    (stageTransport c s).detector = s.detector ∧ (stageTransport c s).profiles = s.profiles ∧
    (stageTransport c s).store = s.store ∧ (stageTransport c s).returned = s.returned ∧
    (stageTransport c s).freeCount = s.freeCount ∧ (stageTransport c s).pending = s.pending := by
  unfold stageTransport
  (repeat' split) <;> simp

@[simp] theorem expireStopLimit_frame (s : State) :
    (expireStopLimit s).resetAsserted = s.resetAsserted ∧ (expireStopLimit s).setupSel = s.setupSel ∧
    (expireStopLimit s).partState = s.partState ∧ (expireStopLimit s).shadow = s.shadow ∧
    (expireStopLimit s).setup = s.setup ∧ (expireStopLimit s).reload = s.reload ∧ (expireStopLimit s).port = s.port ∧
    (expireStopLimit s).tables = s.tables ∧ (expireStopLimit s).gradeList = s.gradeList ∧
    (expireStopLimit s).tracker = s.tracker ∧ (expireStopLimit s).lanes = s.lanes ∧ (expireStopLimit s).mix = s.mix ∧
    (expireStopLimit s).profiles = s.profiles ∧ (expireStopLimit s).store = s.store ∧
    (expireStopLimit s).returned = s.returned ∧ (expireStopLimit s).freeCount = s.freeCount ∧
    (expireStopLimit s).pending = s.pending := by
  unfold expireStopLimit
  dsimp only
  (repeat' split) <;> simp

@[simp] theorem expireIfDue_frame (s : State) :
    (expireIfDue s).resetAsserted = s.resetAsserted ∧ (expireIfDue s).setupSel = s.setupSel ∧
    (expireIfDue s).partState = s.partState ∧ (expireIfDue s).shadow = s.shadow ∧ (expireIfDue s).setup = s.setup ∧
    (expireIfDue s).reload = s.reload ∧ (expireIfDue s).port = s.port ∧ (expireIfDue s).tables = s.tables ∧
    (expireIfDue s).gradeList = s.gradeList ∧ (expireIfDue s).tracker = s.tracker ∧ (expireIfDue s).lanes = s.lanes ∧
    (expireIfDue s).mix = s.mix ∧ (expireIfDue s).profiles = s.profiles ∧ (expireIfDue s).store = s.store ∧
    (expireIfDue s).returned = s.returned ∧ (expireIfDue s).freeCount = s.freeCount ∧
    (expireIfDue s).pending = s.pending := by
  unfold expireIfDue
  (repeat' split) <;> simp

@[simp] theorem requestSpeed_frame (f g : Footage) (s : State) :
    (requestSpeed f g s).resetAsserted = s.resetAsserted ∧ (requestSpeed f g s).setupSel = s.setupSel ∧
    (requestSpeed f g s).partState = s.partState ∧ (requestSpeed f g s).shadow = s.shadow ∧
    (requestSpeed f g s).setup = s.setup ∧ (requestSpeed f g s).reload = s.reload ∧
    (requestSpeed f g s).port = s.port ∧ (requestSpeed f g s).tables = s.tables ∧
    (requestSpeed f g s).gradeList = s.gradeList ∧ (requestSpeed f g s).footage = s.footage ∧
    (requestSpeed f g s).tracker = s.tracker ∧ (requestSpeed f g s).lanes = s.lanes ∧
    (requestSpeed f g s).mix = s.mix ∧ (requestSpeed f g s).detector = s.detector ∧
    (requestSpeed f g s).profiles = s.profiles ∧ (requestSpeed f g s).ring = s.ring ∧
    (requestSpeed f g s).store = s.store ∧ (requestSpeed f g s).returned = s.returned ∧
    (requestSpeed f g s).freeCount = s.freeCount ∧ (requestSpeed f g s).pending = s.pending := by
  unfold requestSpeed
  (repeat' split) <;> simp

@[simp] theorem acceptEdge_frame (d : Direction) (s : State) :
    (acceptEdge d s).resetAsserted = s.resetAsserted ∧ (acceptEdge d s).setupSel = s.setupSel ∧
    (acceptEdge d s).partState = s.partState ∧ (acceptEdge d s).shadow = s.shadow ∧
    (acceptEdge d s).setup = s.setup ∧ (acceptEdge d s).reload = s.reload ∧ (acceptEdge d s).port = s.port ∧
    (acceptEdge d s).tables = s.tables ∧ (acceptEdge d s).gradeList = s.gradeList ∧
    (acceptEdge d s).tracker = s.tracker ∧ (acceptEdge d s).lanes = s.lanes ∧ (acceptEdge d s).mix = s.mix ∧
    (acceptEdge d s).profiles = s.profiles ∧ (acceptEdge d s).store = s.store ∧
    (acceptEdge d s).returned = s.returned ∧ (acceptEdge d s).freeCount = s.freeCount ∧
    (acceptEdge d s).pending = s.pending := by
  unfold acceptEdge
  dsimp only
  (repeat' split) <;> simp

@[simp] theorem countGlitch_frame (s : State) :
    (countGlitch s).resetAsserted = s.resetAsserted ∧ (countGlitch s).setupSel = s.setupSel ∧
    (countGlitch s).partState = s.partState ∧ (countGlitch s).shadow = s.shadow ∧ (countGlitch s).setup = s.setup ∧
    (countGlitch s).reload = s.reload ∧ (countGlitch s).port = s.port ∧ (countGlitch s).tables = s.tables ∧
    (countGlitch s).gradeList = s.gradeList ∧ (countGlitch s).tracker = s.tracker ∧ (countGlitch s).lanes = s.lanes ∧
    (countGlitch s).mix = s.mix ∧ (countGlitch s).divider = s.divider ∧ (countGlitch s).detector = s.detector ∧
    (countGlitch s).profiles = s.profiles ∧ (countGlitch s).ring = s.ring ∧ (countGlitch s).store = s.store ∧
    (countGlitch s).returned = s.returned ∧ (countGlitch s).freeCount = s.freeCount ∧
    (countGlitch s).pending = s.pending := by
  unfold countGlitch
  dsimp only
  (repeat' split) <;> simp

@[simp] theorem perforationEdge_frame (d : Direction) (s : State) :
    (perforationEdge d s).resetAsserted = s.resetAsserted ∧ (perforationEdge d s).setupSel = s.setupSel ∧
    (perforationEdge d s).partState = s.partState ∧ (perforationEdge d s).shadow = s.shadow ∧
    (perforationEdge d s).setup = s.setup ∧ (perforationEdge d s).reload = s.reload ∧
    (perforationEdge d s).port = s.port ∧ (perforationEdge d s).tables = s.tables ∧
    (perforationEdge d s).gradeList = s.gradeList ∧ (perforationEdge d s).tracker = s.tracker ∧
    (perforationEdge d s).lanes = s.lanes ∧ (perforationEdge d s).mix = s.mix ∧
    (perforationEdge d s).profiles = s.profiles ∧ (perforationEdge d s).store = s.store ∧
    (perforationEdge d s).returned = s.returned ∧ (perforationEdge d s).freeCount = s.freeCount ∧
    (perforationEdge d s).pending = s.pending := by
  unfold perforationEdge
  (repeat' split) <;> simp

@[simp] theorem ppfChanged_frame (s : State) :
    (ppfChanged s).resetAsserted = s.resetAsserted ∧ (ppfChanged s).setupSel = s.setupSel ∧
    (ppfChanged s).partState = s.partState ∧ (ppfChanged s).shadow = s.shadow ∧ (ppfChanged s).setup = s.setup ∧
    (ppfChanged s).reload = s.reload ∧ (ppfChanged s).port = s.port ∧ (ppfChanged s).tables = s.tables ∧
    (ppfChanged s).gradeList = s.gradeList ∧ (ppfChanged s).tracker = s.tracker ∧ (ppfChanged s).lanes = s.lanes ∧
    (ppfChanged s).mix = s.mix ∧ (ppfChanged s).divider = s.divider ∧ (ppfChanged s).detector = s.detector ∧
    (ppfChanged s).profiles = s.profiles ∧ (ppfChanged s).ring = s.ring ∧ (ppfChanged s).store = s.store ∧
    (ppfChanged s).returned = s.returned ∧ (ppfChanged s).freeCount = s.freeCount ∧ (ppfChanged s).pending = s.pending := by
  unfold ppfChanged
  dsimp only
  (repeat' split) <;> simp

@[simp] theorem presetFrame_frame (n : Int) (s : State) :
    (presetFrame n s).resetAsserted = s.resetAsserted ∧ (presetFrame n s).setupSel = s.setupSel ∧
    (presetFrame n s).partState = s.partState ∧ (presetFrame n s).shadow = s.shadow ∧
    (presetFrame n s).setup = s.setup ∧ (presetFrame n s).reload = s.reload ∧ (presetFrame n s).port = s.port ∧
    (presetFrame n s).tables = s.tables ∧ (presetFrame n s).gradeList = s.gradeList ∧
    (presetFrame n s).tracker = s.tracker ∧ (presetFrame n s).lanes = s.lanes ∧ (presetFrame n s).mix = s.mix ∧
    (presetFrame n s).divider = s.divider ∧ (presetFrame n s).profiles = s.profiles ∧
    (presetFrame n s).ring = s.ring ∧ (presetFrame n s).store = s.store ∧ (presetFrame n s).returned = s.returned ∧
    (presetFrame n s).freeCount = s.freeCount ∧ (presetFrame n s).pending = s.pending := by
  unfold presetFrame
  dsimp only
  (repeat' split) <;> simp

@[simp] theorem takeSpeedResult_frame (b : Bool) (q : Nat) (s : State) :
    (takeSpeedResult b q s).resetAsserted = s.resetAsserted ∧ (takeSpeedResult b q s).setupSel = s.setupSel ∧
    (takeSpeedResult b q s).partState = s.partState ∧ (takeSpeedResult b q s).shadow = s.shadow ∧
    (takeSpeedResult b q s).setup = s.setup ∧ (takeSpeedResult b q s).reload = s.reload ∧
    (takeSpeedResult b q s).port = s.port ∧ (takeSpeedResult b q s).tables = s.tables ∧
    (takeSpeedResult b q s).gradeList = s.gradeList ∧ (takeSpeedResult b q s).tracker = s.tracker ∧
    (takeSpeedResult b q s).lanes = s.lanes ∧ (takeSpeedResult b q s).mix = s.mix ∧
    (takeSpeedResult b q s).divider = s.divider ∧ (takeSpeedResult b q s).detector = s.detector ∧
    (takeSpeedResult b q s).profiles = s.profiles ∧ (takeSpeedResult b q s).ring = s.ring ∧
    (takeSpeedResult b q s).store = s.store ∧ (takeSpeedResult b q s).returned = s.returned ∧
    (takeSpeedResult b q s).freeCount = s.freeCount ∧ (takeSpeedResult b q s).pending = s.pending := by
  unfold takeSpeedResult
  dsimp only
  (repeat' split) <;> simp

@[simp] theorem decideCue_frame (l : Lookup) (t : TransportState) (d : Direction) (s : State) :
    (decideCue l t d s).resetAsserted = s.resetAsserted ∧ (decideCue l t d s).setupSel = s.setupSel ∧
    (decideCue l t d s).partState = s.partState ∧ (decideCue l t d s).shadow = s.shadow ∧
    (decideCue l t d s).setup = s.setup ∧ (decideCue l t d s).reload = s.reload ∧ (decideCue l t d s).port = s.port ∧
    (decideCue l t d s).tables = s.tables ∧ (decideCue l t d s).gradeList = s.gradeList ∧
    (decideCue l t d s).tracker = s.tracker ∧ (decideCue l t d s).lanes = s.lanes ∧ (decideCue l t d s).mix = s.mix ∧
    (decideCue l t d s).divider = s.divider ∧ (decideCue l t d s).detector = s.detector ∧
    (decideCue l t d s).profiles = s.profiles ∧ (decideCue l t d s).ring = s.ring ∧
    (decideCue l t d s).store = s.store ∧ (decideCue l t d s).returned = s.returned ∧
    (decideCue l t d s).freeCount = s.freeCount ∧ (decideCue l t d s).pending = s.pending := by
  unfold decideCue
  dsimp only
  (repeat' split) <;> simp

@[simp] theorem endCueIfDue_frame (s : State) :
    (endCueIfDue s).resetAsserted = s.resetAsserted ∧ (endCueIfDue s).setupSel = s.setupSel ∧
    (endCueIfDue s).partState = s.partState ∧ (endCueIfDue s).shadow = s.shadow ∧ (endCueIfDue s).setup = s.setup ∧
    (endCueIfDue s).reload = s.reload ∧ (endCueIfDue s).port = s.port ∧ (endCueIfDue s).tables = s.tables ∧
    (endCueIfDue s).gradeList = s.gradeList ∧ (endCueIfDue s).tracker = s.tracker ∧ (endCueIfDue s).lanes = s.lanes ∧
    (endCueIfDue s).mix = s.mix ∧ (endCueIfDue s).divider = s.divider ∧ (endCueIfDue s).detector = s.detector ∧
    (endCueIfDue s).profiles = s.profiles ∧ (endCueIfDue s).ring = s.ring ∧ (endCueIfDue s).store = s.store ∧
    (endCueIfDue s).returned = s.returned ∧ (endCueIfDue s).freeCount = s.freeCount ∧
    (endCueIfDue s).pending = s.pending := by
  unfold endCueIfDue
  dsimp only
  (repeat' split) <;> simp

/-! ## Profile Store -/

@[simp] theorem acceptProgram_frame (n : Fin 32) (s : State) :
    (acceptProgram n s).resetAsserted = s.resetAsserted ∧ (acceptProgram n s).setupSel = s.setupSel ∧
    (acceptProgram n s).partState = s.partState ∧ (acceptProgram n s).shadow = s.shadow ∧
    (acceptProgram n s).setup = s.setup ∧ (acceptProgram n s).reload = s.reload ∧ (acceptProgram n s).port = s.port ∧
    (acceptProgram n s).tables = s.tables ∧ (acceptProgram n s).gradeList = s.gradeList ∧
    (acceptProgram n s).footage = s.footage ∧ (acceptProgram n s).tracker = s.tracker ∧
    (acceptProgram n s).mix = s.mix ∧ (acceptProgram n s).divider = s.divider ∧
    (acceptProgram n s).detector = s.detector ∧ (acceptProgram n s).ring = s.ring ∧
    (acceptProgram n s).store = s.store ∧ (acceptProgram n s).returned = s.returned ∧
    (acceptProgram n s).freeCount = s.freeCount ∧ (acceptProgram n s).pending = s.pending := by
  unfold acceptProgram
  dsimp only
  (repeat' split) <;> simp

@[simp] theorem programProfile_frame (n : Fin 32) (s : State) :
    (programProfile n s).resetAsserted = s.resetAsserted ∧ (programProfile n s).setupSel = s.setupSel ∧
    (programProfile n s).partState = s.partState ∧ (programProfile n s).shadow = s.shadow ∧
    (programProfile n s).setup = s.setup ∧ (programProfile n s).reload = s.reload ∧
    (programProfile n s).port = s.port ∧ (programProfile n s).tables = s.tables ∧
    (programProfile n s).gradeList = s.gradeList ∧ (programProfile n s).footage = s.footage ∧
    (programProfile n s).tracker = s.tracker ∧ (programProfile n s).mix = s.mix ∧
    (programProfile n s).divider = s.divider ∧ (programProfile n s).detector = s.detector ∧
    (programProfile n s).store = s.store ∧ (programProfile n s).returned = s.returned ∧
    (programProfile n s).freeCount = s.freeCount ∧ (programProfile n s).pending = s.pending := by
  unfold programProfile
  (repeat' split) <;> simp

@[simp] theorem readProfile_frame (n : Fin 32) (s : State) :
    (readProfile n s).resetAsserted = s.resetAsserted ∧ (readProfile n s).setupSel = s.setupSel ∧
    (readProfile n s).partState = s.partState ∧ (readProfile n s).shadow = s.shadow ∧
    (readProfile n s).setup = s.setup ∧ (readProfile n s).reload = s.reload ∧ (readProfile n s).port = s.port ∧
    (readProfile n s).tables = s.tables ∧ (readProfile n s).gradeList = s.gradeList ∧
    (readProfile n s).footage = s.footage ∧ (readProfile n s).tracker = s.tracker ∧
    (readProfile n s).lanes = s.lanes ∧ (readProfile n s).mix = s.mix ∧ (readProfile n s).divider = s.divider ∧
    (readProfile n s).detector = s.detector ∧ (readProfile n s).profiles = s.profiles ∧
    (readProfile n s).store = s.store ∧ (readProfile n s).returned = s.returned ∧
    (readProfile n s).freeCount = s.freeCount ∧ (readProfile n s).pending = s.pending := by
  unfold readProfile
  (repeat' split) <;> simp

@[simp] theorem completeCellWrite_frame (k : BitVec 67) (s : State) :
    (completeCellWrite k s).resetAsserted = s.resetAsserted ∧ (completeCellWrite k s).setupSel = s.setupSel ∧
    (completeCellWrite k s).partState = s.partState ∧ (completeCellWrite k s).shadow = s.shadow ∧
    (completeCellWrite k s).setup = s.setup ∧ (completeCellWrite k s).reload = s.reload ∧
    (completeCellWrite k s).port = s.port ∧ (completeCellWrite k s).tables = s.tables ∧
    (completeCellWrite k s).gradeList = s.gradeList ∧ (completeCellWrite k s).footage = s.footage ∧
    (completeCellWrite k s).tracker = s.tracker ∧ (completeCellWrite k s).lanes = s.lanes ∧
    (completeCellWrite k s).mix = s.mix ∧ (completeCellWrite k s).divider = s.divider ∧
    (completeCellWrite k s).detector = s.detector ∧ (completeCellWrite k s).ring = s.ring ∧
    (completeCellWrite k s).store = s.store ∧ (completeCellWrite k s).returned = s.returned ∧
    (completeCellWrite k s).freeCount = s.freeCount ∧ (completeCellWrite k s).pending = s.pending := by
  unfold completeCellWrite
  dsimp only
  (repeat' split) <;> simp

@[simp] theorem endOperation_frame (n : Fin 32) (v : Profile) (r : ProgramResult) (s : State) :
    (endOperation n v r s).resetAsserted = s.resetAsserted ∧ (endOperation n v r s).setupSel = s.setupSel ∧
    (endOperation n v r s).partState = s.partState ∧ (endOperation n v r s).shadow = s.shadow ∧
    (endOperation n v r s).setup = s.setup ∧ (endOperation n v r s).reload = s.reload ∧
    (endOperation n v r s).port = s.port ∧ (endOperation n v r s).tables = s.tables ∧
    (endOperation n v r s).gradeList = s.gradeList ∧ (endOperation n v r s).footage = s.footage ∧
    (endOperation n v r s).tracker = s.tracker ∧ (endOperation n v r s).lanes = s.lanes ∧
    (endOperation n v r s).mix = s.mix ∧ (endOperation n v r s).divider = s.divider ∧
    (endOperation n v r s).detector = s.detector ∧ (endOperation n v r s).store = s.store ∧
    (endOperation n v r s).returned = s.returned ∧ (endOperation n v r s).freeCount = s.freeCount ∧
    (endOperation n v r s).pending = s.pending := by
  unfold endOperation
  dsimp only
  (repeat' split) <;> simp

@[simp] theorem completeVerify_frame (s : State) :
    (completeVerify s).resetAsserted = s.resetAsserted ∧ (completeVerify s).setupSel = s.setupSel ∧
    (completeVerify s).partState = s.partState ∧ (completeVerify s).shadow = s.shadow ∧
    (completeVerify s).setup = s.setup ∧ (completeVerify s).reload = s.reload ∧ (completeVerify s).port = s.port ∧
    (completeVerify s).tables = s.tables ∧ (completeVerify s).gradeList = s.gradeList ∧
    (completeVerify s).footage = s.footage ∧ (completeVerify s).tracker = s.tracker ∧
    (completeVerify s).lanes = s.lanes ∧ (completeVerify s).mix = s.mix ∧ (completeVerify s).divider = s.divider ∧
    (completeVerify s).detector = s.detector ∧ (completeVerify s).store = s.store ∧
    (completeVerify s).returned = s.returned ∧ (completeVerify s).freeCount = s.freeCount ∧
    (completeVerify s).pending = s.pending := by
  unfold completeVerify
  dsimp only
  (repeat' split) <;> simp

@[simp] theorem timeOutIfDue_frame (s : State) :
    (timeOutIfDue s).resetAsserted = s.resetAsserted ∧ (timeOutIfDue s).setupSel = s.setupSel ∧
    (timeOutIfDue s).partState = s.partState ∧ (timeOutIfDue s).shadow = s.shadow ∧
    (timeOutIfDue s).setup = s.setup ∧ (timeOutIfDue s).reload = s.reload ∧ (timeOutIfDue s).port = s.port ∧
    (timeOutIfDue s).tables = s.tables ∧ (timeOutIfDue s).gradeList = s.gradeList ∧
    (timeOutIfDue s).footage = s.footage ∧ (timeOutIfDue s).tracker = s.tracker ∧ (timeOutIfDue s).lanes = s.lanes ∧
    (timeOutIfDue s).mix = s.mix ∧ (timeOutIfDue s).divider = s.divider ∧ (timeOutIfDue s).detector = s.detector ∧
    (timeOutIfDue s).store = s.store ∧ (timeOutIfDue s).returned = s.returned ∧ (timeOutIfDue s).pending = s.pending := by
  unfold timeOutIfDue
  dsimp only
  (repeat' split) <;> simp

/-! ## Frame Tracker -/

@[simp] theorem clearReportedCounts_frame (s : State) :
    (clearReportedCounts s).resetAsserted = s.resetAsserted ∧ (clearReportedCounts s).setupSel = s.setupSel ∧
    (clearReportedCounts s).partState = s.partState ∧ (clearReportedCounts s).shadow = s.shadow ∧
    (clearReportedCounts s).setup = s.setup ∧ (clearReportedCounts s).reload = s.reload ∧
    (clearReportedCounts s).port = s.port ∧ (clearReportedCounts s).tables = s.tables ∧
    (clearReportedCounts s).gradeList = s.gradeList ∧ (clearReportedCounts s).lanes = s.lanes ∧
    (clearReportedCounts s).mix = s.mix ∧ (clearReportedCounts s).divider = s.divider ∧
    (clearReportedCounts s).detector = s.detector ∧ (clearReportedCounts s).profiles = s.profiles ∧
    (clearReportedCounts s).store = s.store ∧ (clearReportedCounts s).returned = s.returned ∧
    (clearReportedCounts s).freeCount = s.freeCount ∧ (clearReportedCounts s).pending = s.pending := by
  unfold clearReportedCounts
  dsimp only
  (repeat' split) <;> simp

@[simp] theorem stageSummary_frame (f : OpenFrame) (o : DetectorOutcome) (s : State) :
    (stageSummary f o s).resetAsserted = s.resetAsserted ∧ (stageSummary f o s).setupSel = s.setupSel ∧
    (stageSummary f o s).partState = s.partState ∧ (stageSummary f o s).shadow = s.shadow ∧
    (stageSummary f o s).setup = s.setup ∧ (stageSummary f o s).reload = s.reload ∧
    (stageSummary f o s).port = s.port ∧ (stageSummary f o s).tables = s.tables ∧
    (stageSummary f o s).gradeList = s.gradeList ∧ (stageSummary f o s).lanes = s.lanes ∧
    (stageSummary f o s).mix = s.mix ∧ (stageSummary f o s).divider = s.divider ∧
    (stageSummary f o s).detector = s.detector ∧ (stageSummary f o s).profiles = s.profiles ∧
    (stageSummary f o s).store = s.store ∧ (stageSummary f o s).returned = s.returned ∧
    (stageSummary f o s).freeCount = s.freeCount ∧ (stageSummary f o s).pending = s.pending := by
  unfold stageSummary
  dsimp only
  (repeat' split) <;> simp

@[simp] theorem closeOpenFrame_frame (c : Bool) (f : OpenFrame) (s : State) :
    (closeOpenFrame c f s).resetAsserted = s.resetAsserted ∧ (closeOpenFrame c f s).setupSel = s.setupSel ∧
    (closeOpenFrame c f s).partState = s.partState ∧ (closeOpenFrame c f s).shadow = s.shadow ∧
    (closeOpenFrame c f s).setup = s.setup ∧ (closeOpenFrame c f s).reload = s.reload ∧
    (closeOpenFrame c f s).port = s.port ∧ (closeOpenFrame c f s).tables = s.tables ∧
    (closeOpenFrame c f s).gradeList = s.gradeList ∧ (closeOpenFrame c f s).lanes = s.lanes ∧
    (closeOpenFrame c f s).divider = s.divider ∧ (closeOpenFrame c f s).profiles = s.profiles ∧
    (closeOpenFrame c f s).store = s.store ∧ (closeOpenFrame c f s).returned = s.returned ∧
    (closeOpenFrame c f s).freeCount = s.freeCount ∧ (closeOpenFrame c f s).pending = s.pending := by
  unfold closeOpenFrame
  dsimp only
  (repeat' split) <;> simp

@[simp] theorem closeFrame_frame (c : Bool) (s : State) :
    (closeFrame c s).resetAsserted = s.resetAsserted ∧ (closeFrame c s).setupSel = s.setupSel ∧
    (closeFrame c s).partState = s.partState ∧ (closeFrame c s).shadow = s.shadow ∧
    (closeFrame c s).setup = s.setup ∧ (closeFrame c s).reload = s.reload ∧ (closeFrame c s).port = s.port ∧
    (closeFrame c s).tables = s.tables ∧ (closeFrame c s).gradeList = s.gradeList ∧
    (closeFrame c s).lanes = s.lanes ∧ (closeFrame c s).divider = s.divider ∧
    (closeFrame c s).profiles = s.profiles ∧ (closeFrame c s).store = s.store ∧
    (closeFrame c s).returned = s.returned ∧ (closeFrame c s).freeCount = s.freeCount ∧
    (closeFrame c s).pending = s.pending := by
  unfold closeFrame
  (repeat' split) <;> simp

/-- A close changes the glitch count of the footage, and nothing else of it (R108). -/
theorem stageSummary_footage (f : OpenFrame) (o : DetectorOutcome) (s : State) :
    (stageSummary f o s).footage = { s.footage with glitches := (stageSummary f o s).footage.glitches } := by
  by_cases h : f.setup.summaryEnable = true <;> by_cases h' : queueHasRoom s = true <;>
    simp [stageSummary, clearReportedCounts, h, h']

theorem closeFrame_footage (complete : Bool) (s : State) :
    (closeFrame complete s).footage = { s.footage with glitches := (closeFrame complete s).footage.glitches } := by
  unfold closeFrame
  split
  · next f _ =>
    simp only [closeOpenFrame, endMixWait, State.withMix_footage, State.withTracker_footage]
    rw [stageSummary_footage]
    simp
  · rfl

@[simp] theorem openAfterClose_frame (b : Fin 4) (s : State) :
    (openAfterClose b s).resetAsserted = s.resetAsserted ∧ (openAfterClose b s).setupSel = s.setupSel ∧
    (openAfterClose b s).partState = s.partState ∧ (openAfterClose b s).shadow = s.shadow ∧
    (openAfterClose b s).setup = s.setup ∧ (openAfterClose b s).reload = s.reload ∧
    (openAfterClose b s).port = s.port ∧ (openAfterClose b s).tables = s.tables ∧
    (openAfterClose b s).gradeList = s.gradeList ∧ (openAfterClose b s).profiles = s.profiles ∧
    (openAfterClose b s).ring = s.ring ∧ (openAfterClose b s).store = s.store ∧
    (openAfterClose b s).returned = s.returned ∧ (openAfterClose b s).freeCount = s.freeCount ∧
    (openAfterClose b s).pending = s.pending := by
  unfold openAfterClose
  dsimp only
  (repeat' split) <;> simp

@[simp] theorem openFrame_frame (b : Fin 4) (s : State) :
    (openFrame b s).resetAsserted = s.resetAsserted ∧ (openFrame b s).setupSel = s.setupSel ∧
    (openFrame b s).partState = s.partState ∧ (openFrame b s).shadow = s.shadow ∧ (openFrame b s).setup = s.setup ∧
    (openFrame b s).reload = s.reload ∧ (openFrame b s).port = s.port ∧ (openFrame b s).tables = s.tables ∧
    (openFrame b s).gradeList = s.gradeList ∧ (openFrame b s).profiles = s.profiles ∧
    (openFrame b s).store = s.store ∧ (openFrame b s).returned = s.returned ∧
    (openFrame b s).freeCount = s.freeCount ∧ (openFrame b s).pending = s.pending := by
  unfold openFrame
  (repeat' split) <;> simp

@[simp] theorem handToDetector_frame (f : OpenFrame) (x y : Nat) (v : Rgb Int) (s : State) :
    (handToDetector f x y v s).resetAsserted = s.resetAsserted ∧ (handToDetector f x y v s).setupSel = s.setupSel ∧
    (handToDetector f x y v s).partState = s.partState ∧ (handToDetector f x y v s).shadow = s.shadow ∧
    (handToDetector f x y v s).setup = s.setup ∧ (handToDetector f x y v s).reload = s.reload ∧
    (handToDetector f x y v s).port = s.port ∧ (handToDetector f x y v s).tables = s.tables ∧
    (handToDetector f x y v s).gradeList = s.gradeList ∧ (handToDetector f x y v s).footage = s.footage ∧
    (handToDetector f x y v s).tracker = s.tracker ∧ (handToDetector f x y v s).lanes = s.lanes ∧
    (handToDetector f x y v s).mix = s.mix ∧ (handToDetector f x y v s).divider = s.divider ∧
    (handToDetector f x y v s).profiles = s.profiles ∧ (handToDetector f x y v s).ring = s.ring ∧
    (handToDetector f x y v s).store = s.store ∧ (handToDetector f x y v s).returned = s.returned ∧
    (handToDetector f x y v s).freeCount = s.freeCount ∧ (handToDetector f x y v s).pending = s.pending := by
  unfold handToDetector
  (repeat' split) <;> simp

@[simp] theorem gradeWord_frame (f : OpenFrame) (a o : Nat) (w : Word) (s : State) :
    (gradeWord f a o w s).resetAsserted = s.resetAsserted ∧ (gradeWord f a o w s).setupSel = s.setupSel ∧
    (gradeWord f a o w s).partState = s.partState ∧ (gradeWord f a o w s).shadow = s.shadow ∧
    (gradeWord f a o w s).setup = s.setup ∧ (gradeWord f a o w s).reload = s.reload ∧
    (gradeWord f a o w s).port = s.port ∧ (gradeWord f a o w s).tables = s.tables ∧
    (gradeWord f a o w s).gradeList = s.gradeList ∧ (gradeWord f a o w s).footage = s.footage ∧
    (gradeWord f a o w s).lanes = s.lanes ∧ (gradeWord f a o w s).mix = s.mix ∧
    (gradeWord f a o w s).divider = s.divider ∧ (gradeWord f a o w s).profiles = s.profiles ∧
    (gradeWord f a o w s).ring = s.ring ∧ (gradeWord f a o w s).returned = s.returned ∧
    (gradeWord f a o w s).freeCount = s.freeCount ∧ (gradeWord f a o w s).pending = s.pending := by
  unfold gradeWord
  dsimp only
  (repeat' split) <;> simp

@[simp] theorem passOrphan_frame (a : Nat) (w : Word) (s : State) :
    (passOrphan a w s).resetAsserted = s.resetAsserted ∧ (passOrphan a w s).setupSel = s.setupSel ∧
    (passOrphan a w s).partState = s.partState ∧ (passOrphan a w s).shadow = s.shadow ∧
    (passOrphan a w s).setup = s.setup ∧ (passOrphan a w s).reload = s.reload ∧ (passOrphan a w s).port = s.port ∧
    (passOrphan a w s).tables = s.tables ∧ (passOrphan a w s).gradeList = s.gradeList ∧
    (passOrphan a w s).footage = s.footage ∧ (passOrphan a w s).lanes = s.lanes ∧ (passOrphan a w s).mix = s.mix ∧
    (passOrphan a w s).divider = s.divider ∧ (passOrphan a w s).detector = s.detector ∧
    (passOrphan a w s).profiles = s.profiles ∧ (passOrphan a w s).ring = s.ring ∧
    (passOrphan a w s).returned = s.returned ∧ (passOrphan a w s).freeCount = s.freeCount ∧
    (passOrphan a w s).pending = s.pending := by
  unfold passOrphan
  dsimp only
  (repeat' split) <;> simp

@[simp] theorem gradeInOpenFrame_frame (a o : Nat) (w : Word) (s : State) :
    (gradeInOpenFrame a o w s).resetAsserted = s.resetAsserted ∧ (gradeInOpenFrame a o w s).setupSel = s.setupSel ∧
    (gradeInOpenFrame a o w s).partState = s.partState ∧ (gradeInOpenFrame a o w s).shadow = s.shadow ∧
    (gradeInOpenFrame a o w s).setup = s.setup ∧ (gradeInOpenFrame a o w s).reload = s.reload ∧
    (gradeInOpenFrame a o w s).port = s.port ∧ (gradeInOpenFrame a o w s).tables = s.tables ∧
    (gradeInOpenFrame a o w s).gradeList = s.gradeList ∧ (gradeInOpenFrame a o w s).footage = s.footage ∧
    (gradeInOpenFrame a o w s).lanes = s.lanes ∧ (gradeInOpenFrame a o w s).mix = s.mix ∧
    (gradeInOpenFrame a o w s).divider = s.divider ∧ (gradeInOpenFrame a o w s).profiles = s.profiles ∧
    (gradeInOpenFrame a o w s).ring = s.ring ∧ (gradeInOpenFrame a o w s).returned = s.returned ∧
    (gradeInOpenFrame a o w s).freeCount = s.freeCount ∧ (gradeInOpenFrame a o w s).pending = s.pending := by
  unfold gradeInOpenFrame
  (repeat' split) <;> simp

@[simp] theorem closeAtLastOffset_frame (o : Nat) (s : State) :
    (closeAtLastOffset o s).resetAsserted = s.resetAsserted ∧ (closeAtLastOffset o s).setupSel = s.setupSel ∧
    (closeAtLastOffset o s).partState = s.partState ∧ (closeAtLastOffset o s).shadow = s.shadow ∧
    (closeAtLastOffset o s).setup = s.setup ∧ (closeAtLastOffset o s).reload = s.reload ∧
    (closeAtLastOffset o s).port = s.port ∧ (closeAtLastOffset o s).tables = s.tables ∧
    (closeAtLastOffset o s).gradeList = s.gradeList ∧ (closeAtLastOffset o s).lanes = s.lanes ∧
    (closeAtLastOffset o s).divider = s.divider ∧ (closeAtLastOffset o s).profiles = s.profiles ∧
    (closeAtLastOffset o s).store = s.store ∧ (closeAtLastOffset o s).returned = s.returned ∧
    (closeAtLastOffset o s).freeCount = s.freeCount ∧ (closeAtLastOffset o s).pending = s.pending := by
  unfold closeAtLastOffset
  (repeat' split) <;> simp

@[simp] theorem pictureWord_frame (b : Fin 4) (a o : Nat) (w : Word) (s : State) :
    (pictureWord b a o w s).resetAsserted = s.resetAsserted ∧ (pictureWord b a o w s).setupSel = s.setupSel ∧
    (pictureWord b a o w s).partState = s.partState ∧ (pictureWord b a o w s).shadow = s.shadow ∧
    (pictureWord b a o w s).setup = s.setup ∧ (pictureWord b a o w s).reload = s.reload ∧
    (pictureWord b a o w s).port = s.port ∧ (pictureWord b a o w s).tables = s.tables ∧
    (pictureWord b a o w s).gradeList = s.gradeList ∧ (pictureWord b a o w s).profiles = s.profiles ∧
    (pictureWord b a o w s).returned = s.returned ∧ (pictureWord b a o w s).freeCount = s.freeCount ∧
    (pictureWord b a o w s).pending = s.pending := by
  unfold pictureWord
  (repeat' split) <;> simp

/-! ## Report Writer -/

@[simp] theorem requestReport_frame (w : ReportWrite) (s : State) :
    (requestReport w s).resetAsserted = s.resetAsserted ∧ (requestReport w s).setupSel = s.setupSel ∧
    (requestReport w s).partState = s.partState ∧ (requestReport w s).shadow = s.shadow ∧
    (requestReport w s).setup = s.setup ∧ (requestReport w s).reload = s.reload ∧
    (requestReport w s).tables = s.tables ∧ (requestReport w s).gradeList = s.gradeList ∧
    (requestReport w s).footage = s.footage ∧ (requestReport w s).tracker = s.tracker ∧
    (requestReport w s).lanes = s.lanes ∧ (requestReport w s).mix = s.mix ∧ (requestReport w s).divider = s.divider ∧
    (requestReport w s).detector = s.detector ∧ (requestReport w s).profiles = s.profiles ∧
    (requestReport w s).ring = s.ring ∧ (requestReport w s).store = s.store ∧
    (requestReport w s).returned = s.returned ∧ (requestReport w s).freeCount = s.freeCount ∧
    (requestReport w s).pending = s.pending := by
  unfold requestReport
  dsimp only
  (repeat' split) <;> simp

@[simp] theorem requestPublication_frame (s : State) :
    (requestPublication s).resetAsserted = s.resetAsserted ∧ (requestPublication s).setupSel = s.setupSel ∧
    (requestPublication s).partState = s.partState ∧ (requestPublication s).shadow = s.shadow ∧
    (requestPublication s).setup = s.setup ∧ (requestPublication s).reload = s.reload ∧
    (requestPublication s).tables = s.tables ∧ (requestPublication s).gradeList = s.gradeList ∧
    (requestPublication s).footage = s.footage ∧ (requestPublication s).tracker = s.tracker ∧
    (requestPublication s).lanes = s.lanes ∧ (requestPublication s).mix = s.mix ∧
    (requestPublication s).divider = s.divider ∧ (requestPublication s).detector = s.detector ∧
    (requestPublication s).profiles = s.profiles ∧ (requestPublication s).ring = s.ring ∧
    (requestPublication s).store = s.store ∧ (requestPublication s).returned = s.returned ∧
    (requestPublication s).freeCount = s.freeCount ∧ (requestPublication s).pending = s.pending := by
  unfold requestPublication
  (repeat' split) <;> simp

@[simp] theorem selectRecord_frame (s : State) :
    (selectRecord s).resetAsserted = s.resetAsserted ∧ (selectRecord s).setupSel = s.setupSel ∧
    (selectRecord s).partState = s.partState ∧ (selectRecord s).shadow = s.shadow ∧
    (selectRecord s).setup = s.setup ∧ (selectRecord s).reload = s.reload ∧ (selectRecord s).tables = s.tables ∧
    (selectRecord s).gradeList = s.gradeList ∧ (selectRecord s).footage = s.footage ∧
    (selectRecord s).tracker = s.tracker ∧ (selectRecord s).lanes = s.lanes ∧ (selectRecord s).mix = s.mix ∧
    (selectRecord s).divider = s.divider ∧ (selectRecord s).detector = s.detector ∧
    (selectRecord s).profiles = s.profiles ∧ (selectRecord s).store = s.store ∧
    (selectRecord s).returned = s.returned ∧ (selectRecord s).freeCount = s.freeCount ∧
    (selectRecord s).pending = s.pending := by
  unfold selectRecord
  dsimp only
  (repeat' split) <;> simp

@[simp] theorem advanceHead_frame (s : State) :
    (advanceHead s).resetAsserted = s.resetAsserted ∧ (advanceHead s).setupSel = s.setupSel ∧
    (advanceHead s).partState = s.partState ∧ (advanceHead s).shadow = s.shadow ∧ (advanceHead s).setup = s.setup ∧
    (advanceHead s).reload = s.reload ∧ (advanceHead s).port = s.port ∧ (advanceHead s).tables = s.tables ∧
    (advanceHead s).gradeList = s.gradeList ∧ (advanceHead s).footage = s.footage ∧
    (advanceHead s).tracker = s.tracker ∧ (advanceHead s).lanes = s.lanes ∧ (advanceHead s).mix = s.mix ∧
    (advanceHead s).divider = s.divider ∧ (advanceHead s).detector = s.detector ∧
    (advanceHead s).profiles = s.profiles ∧ (advanceHead s).store = s.store ∧ (advanceHead s).returned = s.returned ∧
    (advanceHead s).freeCount = s.freeCount ∧ (advanceHead s).pending = s.pending := by
  unfold advanceHead
  dsimp only
  (repeat' split) <;> simp

@[simp] theorem afterReportWrite_frame (w : ReportWrite) (s : State) :
    (afterReportWrite w s).resetAsserted = s.resetAsserted ∧ (afterReportWrite w s).setupSel = s.setupSel ∧
    (afterReportWrite w s).partState = s.partState ∧ (afterReportWrite w s).shadow = s.shadow ∧
    (afterReportWrite w s).setup = s.setup ∧ (afterReportWrite w s).reload = s.reload ∧
    (afterReportWrite w s).tables = s.tables ∧ (afterReportWrite w s).gradeList = s.gradeList ∧
    (afterReportWrite w s).footage = s.footage ∧ (afterReportWrite w s).tracker = s.tracker ∧
    (afterReportWrite w s).lanes = s.lanes ∧ (afterReportWrite w s).mix = s.mix ∧
    (afterReportWrite w s).divider = s.divider ∧ (afterReportWrite w s).detector = s.detector ∧
    (afterReportWrite w s).profiles = s.profiles ∧ (afterReportWrite w s).store = s.store ∧
    (afterReportWrite w s).returned = s.returned ∧ (afterReportWrite w s).freeCount = s.freeCount ∧
    (afterReportWrite w s).pending = s.pending := by
  unfold afterReportWrite
  dsimp only
  (repeat' split) <;> simp

@[simp] theorem writeConsumer_frame (w : Word) (s : State) :
    (writeConsumer w s).resetAsserted = s.resetAsserted ∧ (writeConsumer w s).setupSel = s.setupSel ∧
    (writeConsumer w s).partState = s.partState ∧ (writeConsumer w s).shadow = s.shadow ∧
    (writeConsumer w s).setup = s.setup ∧ (writeConsumer w s).reload = s.reload ∧ (writeConsumer w s).port = s.port ∧
    (writeConsumer w s).tables = s.tables ∧ (writeConsumer w s).gradeList = s.gradeList ∧
    (writeConsumer w s).footage = s.footage ∧ (writeConsumer w s).tracker = s.tracker ∧
    (writeConsumer w s).lanes = s.lanes ∧ (writeConsumer w s).mix = s.mix ∧ (writeConsumer w s).divider = s.divider ∧
    (writeConsumer w s).detector = s.detector ∧ (writeConsumer w s).profiles = s.profiles ∧
    (writeConsumer w s).store = s.store ∧ (writeConsumer w s).returned = s.returned ∧
    (writeConsumer w s).freeCount = s.freeCount ∧ (writeConsumer w s).pending = s.pending := by
  unfold writeConsumer
  dsimp only
  (repeat' split) <;> simp

@[simp] theorem resetRing_frame (s : State) :
    (resetRing s).resetAsserted = s.resetAsserted ∧ (resetRing s).setupSel = s.setupSel ∧
    (resetRing s).partState = s.partState ∧ (resetRing s).shadow = s.shadow ∧ (resetRing s).setup = s.setup ∧
    (resetRing s).reload = s.reload ∧ (resetRing s).tables = s.tables ∧ (resetRing s).gradeList = s.gradeList ∧
    (resetRing s).footage = s.footage ∧ (resetRing s).tracker = s.tracker ∧ (resetRing s).lanes = s.lanes ∧
    (resetRing s).mix = s.mix ∧ (resetRing s).divider = s.divider ∧ (resetRing s).detector = s.detector ∧
    (resetRing s).profiles = s.profiles ∧ (resetRing s).store = s.store ∧ (resetRing s).returned = s.returned ∧
    (resetRing s).freeCount = s.freeCount ∧ (resetRing s).pending = s.pending := by
  unfold resetRing
  dsimp only
  (repeat' split) <;> simp

@[simp] theorem suspendReports_frame (s : State) :
    (suspendReports s).resetAsserted = s.resetAsserted ∧ (suspendReports s).setupSel = s.setupSel ∧
    (suspendReports s).partState = s.partState ∧ (suspendReports s).shadow = s.shadow ∧
    (suspendReports s).setup = s.setup ∧ (suspendReports s).reload = s.reload ∧
    (suspendReports s).tables = s.tables ∧ (suspendReports s).gradeList = s.gradeList ∧
    (suspendReports s).footage = s.footage ∧ (suspendReports s).tracker = s.tracker ∧
    (suspendReports s).lanes = s.lanes ∧ (suspendReports s).mix = s.mix ∧ (suspendReports s).divider = s.divider ∧
    (suspendReports s).detector = s.detector ∧ (suspendReports s).profiles = s.profiles ∧
    (suspendReports s).store = s.store ∧ (suspendReports s).returned = s.returned ∧
    (suspendReports s).freeCount = s.freeCount ∧ (suspendReports s).pending = s.pending := by
  unfold suspendReports
  dsimp only
  (repeat' split) <;> simp

/-! ## Reload engine -/

@[simp] theorem makePending_frame (t : TableId) (s : State) :
    (makePending t s).resetAsserted = s.resetAsserted ∧ (makePending t s).setupSel = s.setupSel ∧
    (makePending t s).partState = s.partState ∧ (makePending t s).shadow = s.shadow ∧
    (makePending t s).setup = s.setup ∧ (makePending t s).port = s.port ∧ (makePending t s).tables = s.tables ∧
    (makePending t s).gradeList = s.gradeList ∧ (makePending t s).footage = s.footage ∧
    (makePending t s).tracker = s.tracker ∧ (makePending t s).lanes = s.lanes ∧ (makePending t s).mix = s.mix ∧
    (makePending t s).divider = s.divider ∧ (makePending t s).detector = s.detector ∧
    (makePending t s).profiles = s.profiles ∧ (makePending t s).ring = s.ring ∧ (makePending t s).store = s.store ∧
    (makePending t s).returned = s.returned ∧ (makePending t s).freeCount = s.freeCount ∧
    (makePending t s).pending = s.pending := by
  unfold makePending
  (repeat' split) <;> simp

@[simp] theorem makeAllPending_frame (s : State) :
    (makeAllPending s).resetAsserted = s.resetAsserted ∧ (makeAllPending s).setupSel = s.setupSel ∧
    (makeAllPending s).partState = s.partState ∧ (makeAllPending s).shadow = s.shadow ∧
    (makeAllPending s).setup = s.setup ∧ (makeAllPending s).port = s.port ∧ (makeAllPending s).tables = s.tables ∧
    (makeAllPending s).gradeList = s.gradeList ∧ (makeAllPending s).footage = s.footage ∧
    (makeAllPending s).tracker = s.tracker ∧ (makeAllPending s).lanes = s.lanes ∧ (makeAllPending s).mix = s.mix ∧
    (makeAllPending s).divider = s.divider ∧ (makeAllPending s).detector = s.detector ∧
    (makeAllPending s).profiles = s.profiles ∧ (makeAllPending s).ring = s.ring ∧
    (makeAllPending s).store = s.store ∧ (makeAllPending s).returned = s.returned ∧
    (makeAllPending s).freeCount = s.freeCount ∧ (makeAllPending s).pending = s.pending := by
  unfold makeAllPending
  (repeat' split) <;> simp

@[simp] theorem dropPending_frame (s : State) :
    (dropPending s).resetAsserted = s.resetAsserted ∧ (dropPending s).setupSel = s.setupSel ∧
    (dropPending s).partState = s.partState ∧ (dropPending s).shadow = s.shadow ∧ (dropPending s).setup = s.setup ∧
    (dropPending s).port = s.port ∧ (dropPending s).tables = s.tables ∧ (dropPending s).gradeList = s.gradeList ∧
    (dropPending s).footage = s.footage ∧ (dropPending s).tracker = s.tracker ∧ (dropPending s).lanes = s.lanes ∧
    (dropPending s).mix = s.mix ∧ (dropPending s).divider = s.divider ∧ (dropPending s).detector = s.detector ∧
    (dropPending s).profiles = s.profiles ∧ (dropPending s).ring = s.ring ∧ (dropPending s).store = s.store ∧
    (dropPending s).returned = s.returned ∧ (dropPending s).freeCount = s.freeCount ∧
    (dropPending s).pending = s.pending := by
  unfold dropPending
  (repeat' split) <;> simp

@[simp] theorem advanceTable_frame (ref : ItemRef) (s : State) :
    (advanceTable ref s).resetAsserted = s.resetAsserted ∧ (advanceTable ref s).setupSel = s.setupSel ∧
    (advanceTable ref s).partState = s.partState ∧ (advanceTable ref s).shadow = s.shadow ∧
    (advanceTable ref s).setup = s.setup ∧ (advanceTable ref s).port = s.port ∧
    (advanceTable ref s).tables = s.tables ∧ (advanceTable ref s).gradeList = s.gradeList ∧
    (advanceTable ref s).footage = s.footage ∧ (advanceTable ref s).tracker = s.tracker ∧
    (advanceTable ref s).lanes = s.lanes ∧ (advanceTable ref s).mix = s.mix ∧
    (advanceTable ref s).divider = s.divider ∧ (advanceTable ref s).detector = s.detector ∧
    (advanceTable ref s).profiles = s.profiles ∧ (advanceTable ref s).ring = s.ring ∧
    (advanceTable ref s).store = s.store ∧ (advanceTable ref s).returned = s.returned ∧
    (advanceTable ref s).freeCount = s.freeCount ∧ (advanceTable ref s).pending = s.pending := by
  unfold advanceTable
  (repeat' split) <;> simp

@[simp] theorem installRest_frame (ref : ItemRef) (s : State) :
    (installRest ref s).resetAsserted = s.resetAsserted ∧ (installRest ref s).setupSel = s.setupSel ∧
    (installRest ref s).partState = s.partState ∧ (installRest ref s).shadow = s.shadow ∧
    (installRest ref s).setup = s.setup ∧ (installRest ref s).reload = s.reload ∧ (installRest ref s).port = s.port ∧
    (installRest ref s).gradeList = s.gradeList ∧ (installRest ref s).footage = s.footage ∧
    (installRest ref s).tracker = s.tracker ∧ (installRest ref s).lanes = s.lanes ∧ (installRest ref s).mix = s.mix ∧
    (installRest ref s).divider = s.divider ∧ (installRest ref s).detector = s.detector ∧
    (installRest ref s).profiles = s.profiles ∧ (installRest ref s).ring = s.ring ∧
    (installRest ref s).store = s.store ∧ (installRest ref s).returned = s.returned ∧
    (installRest ref s).freeCount = s.freeCount ∧ (installRest ref s).pending = s.pending := by
  unfold installRest
  generalize partOffsets ref .rest = os
  suffices h : ∀ t : State, ((os.foldl (fun t o => stageTableWord ref o (reloadWord s ref o) t) t).resetAsserted = t.resetAsserted ∧ (os.foldl (fun t o => stageTableWord ref o (reloadWord s ref o) t) t).setupSel = t.setupSel ∧ (os.foldl (fun t o => stageTableWord ref o (reloadWord s ref o) t) t).partState = t.partState ∧ (os.foldl (fun t o => stageTableWord ref o (reloadWord s ref o) t) t).shadow = t.shadow ∧ (os.foldl (fun t o => stageTableWord ref o (reloadWord s ref o) t) t).setup = t.setup ∧ (os.foldl (fun t o => stageTableWord ref o (reloadWord s ref o) t) t).reload = t.reload ∧ (os.foldl (fun t o => stageTableWord ref o (reloadWord s ref o) t) t).port = t.port ∧ (os.foldl (fun t o => stageTableWord ref o (reloadWord s ref o) t) t).gradeList = t.gradeList ∧ (os.foldl (fun t o => stageTableWord ref o (reloadWord s ref o) t) t).footage = t.footage ∧ (os.foldl (fun t o => stageTableWord ref o (reloadWord s ref o) t) t).tracker = t.tracker ∧ (os.foldl (fun t o => stageTableWord ref o (reloadWord s ref o) t) t).lanes = t.lanes ∧ (os.foldl (fun t o => stageTableWord ref o (reloadWord s ref o) t) t).mix = t.mix ∧ (os.foldl (fun t o => stageTableWord ref o (reloadWord s ref o) t) t).divider = t.divider ∧ (os.foldl (fun t o => stageTableWord ref o (reloadWord s ref o) t) t).detector = t.detector ∧ (os.foldl (fun t o => stageTableWord ref o (reloadWord s ref o) t) t).profiles = t.profiles ∧ (os.foldl (fun t o => stageTableWord ref o (reloadWord s ref o) t) t).ring = t.ring ∧ (os.foldl (fun t o => stageTableWord ref o (reloadWord s ref o) t) t).store = t.store ∧ (os.foldl (fun t o => stageTableWord ref o (reloadWord s ref o) t) t).returned = t.returned ∧ (os.foldl (fun t o => stageTableWord ref o (reloadWord s ref o) t) t).freeCount = t.freeCount ∧ (os.foldl (fun t o => stageTableWord ref o (reloadWord s ref o) t) t).pending = t.pending) from h s
  induction os with
  | nil => intro t; simp
  | cons o os ih =>
      intro t
      have h := ih (stageTableWord ref o (reloadWord s ref o) t)
      simpa using h

@[simp] theorem installPart_frame (ref : ItemRef) (p : ItemPart) (s : State) :
    (installPart ref p s).resetAsserted = s.resetAsserted ∧ (installPart ref p s).setupSel = s.setupSel ∧
    (installPart ref p s).partState = s.partState ∧ (installPart ref p s).shadow = s.shadow ∧
    (installPart ref p s).setup = s.setup ∧ (installPart ref p s).port = s.port ∧
    (installPart ref p s).footage = s.footage ∧ (installPart ref p s).tracker = s.tracker ∧
    (installPart ref p s).lanes = s.lanes ∧ (installPart ref p s).mix = s.mix ∧
    (installPart ref p s).divider = s.divider ∧ (installPart ref p s).detector = s.detector ∧
    (installPart ref p s).profiles = s.profiles ∧ (installPart ref p s).store = s.store ∧
    (installPart ref p s).returned = s.returned ∧ (installPart ref p s).freeCount = s.freeCount ∧
    (installPart ref p s).pending = s.pending := by
  unfold installPart
  (repeat' split) <;> simp

@[simp] theorem requestPart_frame (n : Nat) (ref : ItemRef) (p : ItemPart) (s : State) :
    (requestPart n ref p s).resetAsserted = s.resetAsserted ∧ (requestPart n ref p s).setupSel = s.setupSel ∧
    (requestPart n ref p s).partState = s.partState ∧ (requestPart n ref p s).shadow = s.shadow ∧
    (requestPart n ref p s).setup = s.setup ∧ (requestPart n ref p s).footage = s.footage ∧
    (requestPart n ref p s).tracker = s.tracker ∧ (requestPart n ref p s).lanes = s.lanes ∧
    (requestPart n ref p s).mix = s.mix ∧ (requestPart n ref p s).divider = s.divider ∧
    (requestPart n ref p s).detector = s.detector ∧ (requestPart n ref p s).profiles = s.profiles ∧
    (requestPart n ref p s).store = s.store ∧ (requestPart n ref p s).returned = s.returned ∧
    (requestPart n ref p s).freeCount = s.freeCount ∧ (requestPart n ref p s).pending = s.pending := by
  induction n generalizing ref p s with
  | zero => simp [requestPart]
  | succ n ih =>
      unfold requestPart
      split
      · simp
      · simp only []
        split
        · next r q _ =>
            have h := ih r q (installPart ref p s)
            simpa using h
        · simp

@[simp] theorem requestFirstPending_frame (s : State) :
    (requestFirstPending s).resetAsserted = s.resetAsserted ∧ (requestFirstPending s).setupSel = s.setupSel ∧
    (requestFirstPending s).partState = s.partState ∧ (requestFirstPending s).shadow = s.shadow ∧
    (requestFirstPending s).setup = s.setup ∧ (requestFirstPending s).footage = s.footage ∧
    (requestFirstPending s).tracker = s.tracker ∧ (requestFirstPending s).lanes = s.lanes ∧
    (requestFirstPending s).mix = s.mix ∧ (requestFirstPending s).divider = s.divider ∧
    (requestFirstPending s).detector = s.detector ∧ (requestFirstPending s).profiles = s.profiles ∧
    (requestFirstPending s).store = s.store ∧ (requestFirstPending s).returned = s.returned ∧
    (requestFirstPending s).freeCount = s.freeCount ∧ (requestFirstPending s).pending = s.pending := by
  unfold requestFirstPending
  (repeat' split) <;> simp

@[simp] theorem leaveLoading_frame (s : State) :
    (leaveLoading s).resetAsserted = s.resetAsserted ∧ (leaveLoading s).setupSel = s.setupSel ∧
    (leaveLoading s).shadow = s.shadow ∧ (leaveLoading s).setup = s.setup ∧ (leaveLoading s).reload = s.reload ∧
    (leaveLoading s).port = s.port ∧ (leaveLoading s).tables = s.tables ∧ (leaveLoading s).gradeList = s.gradeList ∧
    (leaveLoading s).footage = s.footage ∧ (leaveLoading s).tracker = s.tracker ∧ (leaveLoading s).lanes = s.lanes ∧
    (leaveLoading s).mix = s.mix ∧ (leaveLoading s).divider = s.divider ∧ (leaveLoading s).detector = s.detector ∧
    (leaveLoading s).profiles = s.profiles ∧ (leaveLoading s).ring = s.ring ∧ (leaveLoading s).store = s.store ∧
    (leaveLoading s).returned = s.returned ∧ (leaveLoading s).freeCount = s.freeCount ∧
    (leaveLoading s).pending = s.pending := by
  unfold leaveLoading
  (repeat' split) <;> simp

@[simp] theorem resumeReload_frame (s : State) :
    (resumeReload s).resetAsserted = s.resetAsserted ∧ (resumeReload s).setupSel = s.setupSel ∧
    (resumeReload s).shadow = s.shadow ∧ (resumeReload s).setup = s.setup ∧ (resumeReload s).footage = s.footage ∧
    (resumeReload s).tracker = s.tracker ∧ (resumeReload s).lanes = s.lanes ∧ (resumeReload s).mix = s.mix ∧
    (resumeReload s).divider = s.divider ∧ (resumeReload s).detector = s.detector ∧
    (resumeReload s).profiles = s.profiles ∧ (resumeReload s).store = s.store ∧
    (resumeReload s).returned = s.returned ∧ (resumeReload s).freeCount = s.freeCount ∧
    (resumeReload s).pending = s.pending := by
  unfold resumeReload
  (repeat' split) <;> simp

@[simp] theorem restartReload_frame (c : List TableId) (s : State) :
    (restartReload c s).resetAsserted = s.resetAsserted ∧ (restartReload c s).setupSel = s.setupSel ∧
    (restartReload c s).shadow = s.shadow ∧ (restartReload c s).setup = s.setup ∧
    (restartReload c s).footage = s.footage ∧ (restartReload c s).tracker = s.tracker ∧
    (restartReload c s).lanes = s.lanes ∧ (restartReload c s).mix = s.mix ∧ (restartReload c s).divider = s.divider ∧
    (restartReload c s).detector = s.detector ∧ (restartReload c s).profiles = s.profiles ∧
    (restartReload c s).store = s.store ∧ (restartReload c s).returned = s.returned ∧
    (restartReload c s).freeCount = s.freeCount ∧ (restartReload c s).pending = s.pending := by
  unfold restartReload
  dsimp only
  (repeat' split) <;> simp

@[simp] theorem abandonReload_frame (s : State) :
    (abandonReload s).resetAsserted = s.resetAsserted ∧ (abandonReload s).setupSel = s.setupSel ∧
    (abandonReload s).partState = s.partState ∧ (abandonReload s).shadow = s.shadow ∧
    (abandonReload s).setup = s.setup ∧ (abandonReload s).tables = s.tables ∧
    (abandonReload s).gradeList = s.gradeList ∧ (abandonReload s).footage = s.footage ∧
    (abandonReload s).tracker = s.tracker ∧ (abandonReload s).lanes = s.lanes ∧ (abandonReload s).mix = s.mix ∧
    (abandonReload s).divider = s.divider ∧ (abandonReload s).detector = s.detector ∧
    (abandonReload s).profiles = s.profiles ∧ (abandonReload s).ring = s.ring ∧ (abandonReload s).store = s.store ∧
    (abandonReload s).returned = s.returned ∧ (abandonReload s).freeCount = s.freeCount ∧
    (abandonReload s).pending = s.pending := by
  unfold abandonReload
  dsimp only
  (repeat' split) <;> simp

@[simp] theorem retarget_frame (t : TableId) (s : State) :
    (retarget t s).resetAsserted = s.resetAsserted ∧ (retarget t s).setupSel = s.setupSel ∧
    (retarget t s).shadow = s.shadow ∧ (retarget t s).setup = s.setup ∧ (retarget t s).lanes = s.lanes ∧
    (retarget t s).divider = s.divider ∧ (retarget t s).profiles = s.profiles ∧ (retarget t s).store = s.store ∧
    (retarget t s).returned = s.returned ∧ (retarget t s).freeCount = s.freeCount ∧ (retarget t s).pending = s.pending := by
  unfold retarget
  (repeat' split) <;> simp

@[simp] theorem reloadAll_frame (s : State) :
    (reloadAll s).resetAsserted = s.resetAsserted ∧ (reloadAll s).setupSel = s.setupSel ∧
    (reloadAll s).shadow = s.shadow ∧ (reloadAll s).setup = s.setup ∧ (reloadAll s).lanes = s.lanes ∧
    (reloadAll s).divider = s.divider ∧ (reloadAll s).profiles = s.profiles ∧ (reloadAll s).store = s.store ∧
    (reloadAll s).returned = s.returned ∧ (reloadAll s).freeCount = s.freeCount ∧ (reloadAll s).pending = s.pending := by
  unfold reloadAll
  (repeat' split) <;> simp

@[simp] theorem completeTableRead_frame (ref : ItemRef) (p : ItemPart) (b : Bool) (s : State) :
    (completeTableRead ref p b s).resetAsserted = s.resetAsserted ∧
    (completeTableRead ref p b s).setupSel = s.setupSel ∧ (completeTableRead ref p b s).shadow = s.shadow ∧
    (completeTableRead ref p b s).setup = s.setup ∧ (completeTableRead ref p b s).footage = s.footage ∧
    (completeTableRead ref p b s).tracker = s.tracker ∧ (completeTableRead ref p b s).lanes = s.lanes ∧
    (completeTableRead ref p b s).mix = s.mix ∧ (completeTableRead ref p b s).divider = s.divider ∧
    (completeTableRead ref p b s).detector = s.detector ∧ (completeTableRead ref p b s).profiles = s.profiles ∧
    (completeTableRead ref p b s).store = s.store ∧ (completeTableRead ref p b s).returned = s.returned ∧
    (completeTableRead ref p b s).freeCount = s.freeCount ∧ (completeTableRead ref p b s).pending = s.pending := by
  unfold completeTableRead
  dsimp only
  (repeat' split) <;> simp

/-! ## Setup -/

@[simp] theorem restart_frame (s : State) :
    (restart s).resetAsserted = s.resetAsserted ∧ (restart s).setupSel = s.setupSel ∧
    (restart s).partState = s.partState ∧ (restart s).shadow = s.shadow ∧ (restart s).setup = s.setup ∧
    (restart s).reload = s.reload ∧ (restart s).port = s.port ∧ (restart s).tables = s.tables ∧
    (restart s).gradeList = s.gradeList ∧ (restart s).lanes = s.lanes ∧ (restart s).profiles = s.profiles ∧
    (restart s).store = s.store ∧ (restart s).returned = s.returned ∧ (restart s).freeCount = s.freeCount ∧
    (restart s).pending = s.pending := by
  unfold restart
  (repeat' split) <;> simp

@[simp] theorem enableChanged_frame (s : State) :
    (enableChanged s).resetAsserted = s.resetAsserted ∧ (enableChanged s).setupSel = s.setupSel ∧
    (enableChanged s).shadow = s.shadow ∧ (enableChanged s).setup = s.setup ∧ (enableChanged s).reload = s.reload ∧
    (enableChanged s).port = s.port ∧ (enableChanged s).tables = s.tables ∧
    (enableChanged s).gradeList = s.gradeList ∧ (enableChanged s).lanes = s.lanes ∧
    (enableChanged s).divider = s.divider ∧ (enableChanged s).profiles = s.profiles ∧
    (enableChanged s).store = s.store ∧ (enableChanged s).returned = s.returned ∧
    (enableChanged s).freeCount = s.freeCount ∧ (enableChanged s).pending = s.pending := by
  unfold enableChanged
  (repeat' split) <;> simp

@[simp] theorem attnEnableChanged_frame (s : State) :
    (attnEnableChanged s).resetAsserted = s.resetAsserted ∧ (attnEnableChanged s).setupSel = s.setupSel ∧
    (attnEnableChanged s).partState = s.partState ∧ (attnEnableChanged s).shadow = s.shadow ∧
    (attnEnableChanged s).setup = s.setup ∧ (attnEnableChanged s).reload = s.reload ∧
    (attnEnableChanged s).port = s.port ∧ (attnEnableChanged s).tables = s.tables ∧
    (attnEnableChanged s).gradeList = s.gradeList ∧ (attnEnableChanged s).footage = s.footage ∧
    (attnEnableChanged s).tracker = s.tracker ∧ (attnEnableChanged s).lanes = s.lanes ∧
    (attnEnableChanged s).mix = s.mix ∧ (attnEnableChanged s).divider = s.divider ∧
    (attnEnableChanged s).detector = s.detector ∧ (attnEnableChanged s).profiles = s.profiles ∧
    (attnEnableChanged s).store = s.store ∧ (attnEnableChanged s).returned = s.returned ∧
    (attnEnableChanged s).freeCount = s.freeCount ∧ (attnEnableChanged s).pending = s.pending := by
  unfold attnEnableChanged
  (repeat' split) <;> simp

@[simp] theorem refuseCommandCode_frame (s : State) :
    (refuseCommandCode s).resetAsserted = s.resetAsserted ∧ (refuseCommandCode s).setupSel = s.setupSel ∧
    (refuseCommandCode s).partState = s.partState ∧ (refuseCommandCode s).shadow = s.shadow ∧
    (refuseCommandCode s).setup = s.setup ∧ (refuseCommandCode s).reload = s.reload ∧
    (refuseCommandCode s).port = s.port ∧ (refuseCommandCode s).tables = s.tables ∧
    (refuseCommandCode s).gradeList = s.gradeList ∧ (refuseCommandCode s).footage = s.footage ∧
    (refuseCommandCode s).tracker = s.tracker ∧ (refuseCommandCode s).lanes = s.lanes ∧
    (refuseCommandCode s).mix = s.mix ∧ (refuseCommandCode s).divider = s.divider ∧
    (refuseCommandCode s).detector = s.detector ∧ (refuseCommandCode s).profiles = s.profiles ∧
    (refuseCommandCode s).store = s.store ∧ (refuseCommandCode s).returned = s.returned ∧
    (refuseCommandCode s).freeCount = s.freeCount ∧ (refuseCommandCode s).pending = s.pending := by
  unfold refuseCommandCode
  (repeat' split) <;> simp

@[simp] theorem issueCommand_frame (w : Word) (s : State) :
    (issueCommand w s).resetAsserted = s.resetAsserted ∧ (issueCommand w s).setupSel = s.setupSel ∧
    (issueCommand w s).shadow = s.shadow ∧ (issueCommand w s).setup = s.setup ∧
    (issueCommand w s).divider = s.divider ∧ (issueCommand w s).store = s.store ∧
    (issueCommand w s).returned = s.returned ∧ (issueCommand w s).freeCount = s.freeCount ∧
    (issueCommand w s).pending = s.pending := by
  unfold issueCommand
  (repeat' split) <;> simp

@[simp] theorem takeLegalWord_frame (w : Word) (s : State) :
    (takeLegalWord w s).resetAsserted = s.resetAsserted ∧ (takeLegalWord w s).setupSel = s.setupSel ∧
    (takeLegalWord w s).partState = s.partState ∧ (takeLegalWord w s).shadow = s.shadow ∧
    (takeLegalWord w s).reload = s.reload ∧ (takeLegalWord w s).port = s.port ∧
    (takeLegalWord w s).tables = s.tables ∧ (takeLegalWord w s).gradeList = s.gradeList ∧
    (takeLegalWord w s).footage = s.footage ∧ (takeLegalWord w s).tracker = s.tracker ∧
    (takeLegalWord w s).lanes = s.lanes ∧ (takeLegalWord w s).mix = s.mix ∧ (takeLegalWord w s).divider = s.divider ∧
    (takeLegalWord w s).detector = s.detector ∧ (takeLegalWord w s).profiles = s.profiles ∧
    (takeLegalWord w s).store = s.store ∧ (takeLegalWord w s).returned = s.returned ∧
    (takeLegalWord w s).freeCount = s.freeCount ∧ (takeLegalWord w s).pending = s.pending := by
  unfold takeLegalWord
  (repeat' split) <;> simp

@[simp] theorem takeWord_frame (k : SetupWord) (w : Word) (s : State) :
    (takeWord k w s).resetAsserted = s.resetAsserted ∧ (takeWord k w s).setupSel = s.setupSel ∧
    (takeWord k w s).shadow = s.shadow ∧ (takeWord k w s).store = s.store ∧ (takeWord k w s).returned = s.returned ∧
    (takeWord k w s).freeCount = s.freeCount ∧ (takeWord k w s).pending = s.pending := by
  unfold takeWord
  dsimp only
  (repeat' split) <;> simp

@[simp] theorem checkShadowLegal_frame (s : State) :
    (checkShadowLegal s).resetAsserted = s.resetAsserted ∧ (checkShadowLegal s).setupSel = s.setupSel ∧
    (checkShadowLegal s).partState = s.partState ∧ (checkShadowLegal s).shadow = s.shadow ∧
    (checkShadowLegal s).setup = s.setup ∧ (checkShadowLegal s).reload = s.reload ∧
    (checkShadowLegal s).port = s.port ∧ (checkShadowLegal s).tables = s.tables ∧
    (checkShadowLegal s).gradeList = s.gradeList ∧ (checkShadowLegal s).footage = s.footage ∧
    (checkShadowLegal s).tracker = s.tracker ∧ (checkShadowLegal s).lanes = s.lanes ∧
    (checkShadowLegal s).mix = s.mix ∧ (checkShadowLegal s).divider = s.divider ∧
    (checkShadowLegal s).detector = s.detector ∧ (checkShadowLegal s).profiles = s.profiles ∧
    (checkShadowLegal s).store = s.store ∧ (checkShadowLegal s).returned = s.returned ∧
    (checkShadowLegal s).freeCount = s.freeCount ∧ (checkShadowLegal s).pending = s.pending := by
  unfold checkShadowLegal
  (repeat' split) <;> simp

@[simp] theorem takeSetup_frame (s : State) :
    (takeSetup s).resetAsserted = s.resetAsserted ∧ (takeSetup s).setupSel = s.setupSel ∧
    (takeSetup s).shadow = s.shadow ∧ (takeSetup s).lanes = s.lanes ∧ (takeSetup s).profiles = s.profiles ∧
    (takeSetup s).store = s.store ∧ (takeSetup s).returned = s.returned ∧ (takeSetup s).freeCount = s.freeCount ∧
    (takeSetup s).pending = s.pending := by
  unfold takeSetup
  dsimp only
  (repeat' split) <;> simp

@[simp] theorem enterUnset_frame (s : State) :
    (enterUnset s).resetAsserted = s.resetAsserted ∧ (enterUnset s).setupSel = s.setupSel ∧
    (enterUnset s).shadow = s.shadow ∧ (enterUnset s).setup = s.setup ∧ (enterUnset s).lanes = s.lanes ∧
    (enterUnset s).divider = s.divider ∧ (enterUnset s).profiles = s.profiles ∧ (enterUnset s).store = s.store ∧
    (enterUnset s).returned = s.returned ∧ (enterUnset s).freeCount = s.freeCount ∧ (enterUnset s).pending = s.pending := by
  unfold enterUnset
  (repeat' split) <;> simp

@[simp] theorem captureInUnset_frame (k : SetupWord) (w : Word) (s : State) :
    (captureInUnset k w s).resetAsserted = s.resetAsserted ∧ (captureInUnset k w s).setupSel = s.setupSel ∧
    (captureInUnset k w s).shadow = s.shadow ∧ (captureInUnset k w s).lanes = s.lanes ∧
    (captureInUnset k w s).profiles = s.profiles ∧ (captureInUnset k w s).store = s.store ∧
    (captureInUnset k w s).returned = s.returned ∧ (captureInUnset k w s).freeCount = s.freeCount ∧
    (captureInUnset k w s).pending = s.pending := by
  unfold captureInUnset
  (repeat' split) <;> simp

@[simp] theorem captureInUse_frame (k : SetupWord) (w : Word) (s : State) :
    (captureInUse k w s).resetAsserted = s.resetAsserted ∧ (captureInUse k w s).setupSel = s.setupSel ∧
    (captureInUse k w s).shadow = s.shadow ∧ (captureInUse k w s).store = s.store ∧
    (captureInUse k w s).returned = s.returned ∧ (captureInUse k w s).freeCount = s.freeCount ∧
    (captureInUse k w s).pending = s.pending := by
  unfold captureInUse
  (repeat' split) <;> simp

@[simp] theorem captureSetup_frame (k : Fin 64) (w : Word) (s : State) :
    (captureSetup k w s).resetAsserted = s.resetAsserted ∧ (captureSetup k w s).setupSel = s.setupSel ∧
    (captureSetup k w s).store = s.store ∧ (captureSetup k w s).returned = s.returned ∧
    (captureSetup k w s).freeCount = s.freeCount ∧ (captureSetup k w s).pending = s.pending := by
  unfold captureSetup
  dsimp only
  (repeat' split) <;> simp

@[simp] theorem installSetupRead_frame (q : Fin 4) (s : State) :
    (installSetupRead q s).resetAsserted = s.resetAsserted ∧ (installSetupRead q s).setupSel = s.setupSel ∧
    (installSetupRead q s).partState = s.partState ∧ (installSetupRead q s).setup = s.setup ∧
    (installSetupRead q s).reload = s.reload ∧ (installSetupRead q s).port = s.port ∧
    (installSetupRead q s).tables = s.tables ∧ (installSetupRead q s).gradeList = s.gradeList ∧
    (installSetupRead q s).footage = s.footage ∧ (installSetupRead q s).tracker = s.tracker ∧
    (installSetupRead q s).lanes = s.lanes ∧ (installSetupRead q s).mix = s.mix ∧
    (installSetupRead q s).divider = s.divider ∧ (installSetupRead q s).detector = s.detector ∧
    (installSetupRead q s).profiles = s.profiles ∧ (installSetupRead q s).ring = s.ring ∧
    (installSetupRead q s).store = s.store ∧ (installSetupRead q s).returned = s.returned ∧
    (installSetupRead q s).freeCount = s.freeCount ∧ (installSetupRead q s).pending = s.pending := by
  unfold installSetupRead
  (repeat' split) <;> simp

@[simp] theorem completeSetupRead_frame (q : Fin 4) (s : State) :
    (completeSetupRead q s).resetAsserted = s.resetAsserted ∧ (completeSetupRead q s).setupSel = s.setupSel ∧
    (completeSetupRead q s).lanes = s.lanes ∧ (completeSetupRead q s).profiles = s.profiles ∧
    (completeSetupRead q s).store = s.store ∧ (completeSetupRead q s).returned = s.returned ∧
    (completeSetupRead q s).freeCount = s.freeCount ∧ (completeSetupRead q s).pending = s.pending := by
  unfold completeSetupRead
  dsimp only
  (repeat' split) <;> simp

/-! ## Traffic -/

@[simp] theorem passWord_frame (a : Nat) (w : WriteWord) (s : State) :
    (passWord a w s).resetAsserted = s.resetAsserted ∧ (passWord a w s).setupSel = s.setupSel ∧
    (passWord a w s).partState = s.partState ∧ (passWord a w s).shadow = s.shadow ∧
    (passWord a w s).setup = s.setup ∧ (passWord a w s).reload = s.reload ∧ (passWord a w s).port = s.port ∧
    (passWord a w s).tables = s.tables ∧ (passWord a w s).gradeList = s.gradeList ∧
    (passWord a w s).footage = s.footage ∧ (passWord a w s).tracker = s.tracker ∧ (passWord a w s).lanes = s.lanes ∧
    (passWord a w s).mix = s.mix ∧ (passWord a w s).divider = s.divider ∧ (passWord a w s).detector = s.detector ∧
    (passWord a w s).profiles = s.profiles ∧ (passWord a w s).ring = s.ring ∧
    (passWord a w s).returned = s.returned ∧ (passWord a w s).freeCount = s.freeCount ∧
    (passWord a w s).pending = s.pending := by
  unfold passWord
  (repeat' split) <;> simp

@[simp] theorem forwardPartial_frame (a : Nat) (w : WriteWord) (s : State) :
    (forwardPartial a w s).resetAsserted = s.resetAsserted ∧ (forwardPartial a w s).setupSel = s.setupSel ∧
    (forwardPartial a w s).partState = s.partState ∧ (forwardPartial a w s).shadow = s.shadow ∧
    (forwardPartial a w s).setup = s.setup ∧ (forwardPartial a w s).reload = s.reload ∧
    (forwardPartial a w s).port = s.port ∧ (forwardPartial a w s).tables = s.tables ∧
    (forwardPartial a w s).gradeList = s.gradeList ∧ (forwardPartial a w s).footage = s.footage ∧
    (forwardPartial a w s).tracker = s.tracker ∧ (forwardPartial a w s).lanes = s.lanes ∧
    (forwardPartial a w s).mix = s.mix ∧ (forwardPartial a w s).divider = s.divider ∧
    (forwardPartial a w s).detector = s.detector ∧ (forwardPartial a w s).profiles = s.profiles ∧
    (forwardPartial a w s).returned = s.returned ∧ (forwardPartial a w s).freeCount = s.freeCount ∧
    (forwardPartial a w s).pending = s.pending := by
  unfold forwardPartial
  dsimp only
  (repeat' split) <;> simp

@[simp] theorem forwardFull_frame (m : Master) (a : Nat) (w : Word) (s : State) :
    (forwardFull m a w s).resetAsserted = s.resetAsserted ∧ (forwardFull m a w s).setupSel = s.setupSel ∧
    (forwardFull m a w s).returned = s.returned ∧ (forwardFull m a w s).freeCount = s.freeCount ∧
    (forwardFull m a w s).pending = s.pending := by
  unfold forwardFull
  (repeat' split) <;> simp

@[simp] theorem forwardWord_frame (m : Master) (a : Nat) (w : WriteWord) (s : State) :
    (forwardWord m a w s).resetAsserted = s.resetAsserted ∧ (forwardWord m a w s).setupSel = s.setupSel ∧
    (forwardWord m a w s).returned = s.returned ∧ (forwardWord m a w s).freeCount = s.freeCount ∧
    (forwardWord m a w s).pending = s.pending := by
  unfold forwardWord
  (repeat' split) <;> simp

@[simp] theorem forwardWords_frame (m : Master) (a : Nat) (ws : List WriteWord) (s : State) :
    (forwardWords m a ws s).resetAsserted = s.resetAsserted ∧ (forwardWords m a ws s).setupSel = s.setupSel ∧
    (forwardWords m a ws s).returned = s.returned ∧ (forwardWords m a ws s).freeCount = s.freeCount ∧
    (forwardWords m a ws s).pending = s.pending := by
  induction ws generalizing a s with
  | nil => simp [forwardWords]
  | cons w ws ih =>
      have h := ih (a + 4) (forwardWord m a w s)
      simpa [forwardWords] using h

@[simp] theorem forwardTransaction_frame (t : Transaction) (s : State) :
    (forwardTransaction t s).resetAsserted = s.resetAsserted ∧ (forwardTransaction t s).setupSel = s.setupSel ∧
    (forwardTransaction t s).freeCount = s.freeCount ∧ (forwardTransaction t s).pending = s.pending := by
  unfold forwardTransaction
  (repeat' split) <;> simp

@[simp] theorem arrive_frame (t : Transaction) (s : State) :
    (arrive t s).resetAsserted = s.resetAsserted ∧ (arrive t s).setupSel = s.setupSel ∧
    (arrive t s).freeCount = s.freeCount ∧ (arrive t s).pending = s.pending := by
  unfold arrive
  dsimp only
  (repeat' split) <;> simp

@[simp] theorem forwardWaiting_frame (s : State) :
    (forwardWaiting s).resetAsserted = s.resetAsserted ∧ (forwardWaiting s).setupSel = s.setupSel ∧
    (forwardWaiting s).freeCount = s.freeCount ∧ (forwardWaiting s).pending = s.pending := by
  unfold forwardWaiting
  generalize s.port.waiting = ts
  suffices h : ∀ t : State, ((ts.foldl (fun s t => forwardTransaction t s) t).resetAsserted = t.resetAsserted ∧ (ts.foldl (fun s t => forwardTransaction t s) t).setupSel = t.setupSel ∧ (ts.foldl (fun s t => forwardTransaction t s) t).freeCount = t.freeCount ∧ (ts.foldl (fun s t => forwardTransaction t s) t).pending = t.pending) by
    simpa using h (s.withPort { s.port with waiting := [] })
  induction ts with
  | nil => intro t; simp
  | cons x ts ih =>
      intro t
      have h := ih (forwardTransaction x t)
      simpa using h

@[simp] theorem freePort_frame (s : State) :
    (freePort s).resetAsserted = s.resetAsserted ∧ (freePort s).setupSel = s.setupSel ∧
    (freePort s).partState = s.partState ∧ (freePort s).shadow = s.shadow ∧ (freePort s).setup = s.setup ∧
    (freePort s).reload = s.reload ∧ (freePort s).tables = s.tables ∧ (freePort s).gradeList = s.gradeList ∧
    (freePort s).footage = s.footage ∧ (freePort s).tracker = s.tracker ∧ (freePort s).lanes = s.lanes ∧
    (freePort s).mix = s.mix ∧ (freePort s).divider = s.divider ∧ (freePort s).detector = s.detector ∧
    (freePort s).profiles = s.profiles ∧ (freePort s).ring = s.ring ∧ (freePort s).store = s.store ∧
    (freePort s).returned = s.returned ∧ (freePort s).freeCount = s.freeCount ∧ (freePort s).pending = s.pending := by
  unfold freePort
  dsimp only
  (repeat' split) <;> simp

@[simp] theorem issueOwnAccess_frame (s : State) :
    (issueOwnAccess s).resetAsserted = s.resetAsserted ∧ (issueOwnAccess s).setupSel = s.setupSel ∧
    (issueOwnAccess s).partState = s.partState ∧ (issueOwnAccess s).shadow = s.shadow ∧
    (issueOwnAccess s).setup = s.setup ∧ (issueOwnAccess s).reload = s.reload ∧
    (issueOwnAccess s).tables = s.tables ∧ (issueOwnAccess s).gradeList = s.gradeList ∧
    (issueOwnAccess s).footage = s.footage ∧ (issueOwnAccess s).tracker = s.tracker ∧
    (issueOwnAccess s).lanes = s.lanes ∧ (issueOwnAccess s).mix = s.mix ∧ (issueOwnAccess s).divider = s.divider ∧
    (issueOwnAccess s).detector = s.detector ∧ (issueOwnAccess s).profiles = s.profiles ∧
    (issueOwnAccess s).ring = s.ring ∧ (issueOwnAccess s).store = s.store ∧
    (issueOwnAccess s).returned = s.returned ∧ (issueOwnAccess s).freeCount = s.freeCount ∧
    (issueOwnAccess s).pending = s.pending := by
  unfold issueOwnAccess
  dsimp only
  (repeat' split) <;> simp

/-! ## Completions -/

@[simp] theorem reportWriteDone_frame (w : ReportWrite) (c : List (Nat × Word)) (b : Bool) (s : State) :
    (reportWriteDone w c b s).resetAsserted = s.resetAsserted ∧ (reportWriteDone w c b s).setupSel = s.setupSel ∧
    (reportWriteDone w c b s).partState = s.partState ∧ (reportWriteDone w c b s).shadow = s.shadow ∧
    (reportWriteDone w c b s).setup = s.setup ∧ (reportWriteDone w c b s).reload = s.reload ∧
    (reportWriteDone w c b s).tables = s.tables ∧ (reportWriteDone w c b s).gradeList = s.gradeList ∧
    (reportWriteDone w c b s).footage = s.footage ∧ (reportWriteDone w c b s).tracker = s.tracker ∧
    (reportWriteDone w c b s).lanes = s.lanes ∧ (reportWriteDone w c b s).mix = s.mix ∧
    (reportWriteDone w c b s).divider = s.divider ∧ (reportWriteDone w c b s).detector = s.detector ∧
    (reportWriteDone w c b s).profiles = s.profiles ∧ (reportWriteDone w c b s).returned = s.returned ∧
    (reportWriteDone w c b s).freeCount = s.freeCount ∧ (reportWriteDone w c b s).pending = s.pending := by
  unfold reportWriteDone
  dsimp only
  (repeat' split) <;> simp

@[simp] theorem handQuotient_frame (v : Division) (s : State) :
    (handQuotient v s).resetAsserted = s.resetAsserted ∧ (handQuotient v s).setupSel = s.setupSel ∧
    (handQuotient v s).partState = s.partState ∧ (handQuotient v s).shadow = s.shadow ∧
    (handQuotient v s).setup = s.setup ∧ (handQuotient v s).reload = s.reload ∧ (handQuotient v s).port = s.port ∧
    (handQuotient v s).tables = s.tables ∧ (handQuotient v s).gradeList = s.gradeList ∧
    (handQuotient v s).tracker = s.tracker ∧ (handQuotient v s).lanes = s.lanes ∧
    (handQuotient v s).divider = s.divider ∧ (handQuotient v s).profiles = s.profiles ∧
    (handQuotient v s).ring = s.ring ∧ (handQuotient v s).store = s.store ∧
    (handQuotient v s).returned = s.returned ∧ (handQuotient v s).freeCount = s.freeCount ∧
    (handQuotient v s).pending = s.pending := by
  unfold handQuotient
  dsimp only
  (repeat' split) <;> simp

@[simp] theorem divisionCompletes_frame (s : State) :
    (divisionCompletes s).resetAsserted = s.resetAsserted ∧ (divisionCompletes s).setupSel = s.setupSel ∧
    (divisionCompletes s).partState = s.partState ∧ (divisionCompletes s).shadow = s.shadow ∧
    (divisionCompletes s).setup = s.setup ∧ (divisionCompletes s).reload = s.reload ∧
    (divisionCompletes s).port = s.port ∧ (divisionCompletes s).tables = s.tables ∧
    (divisionCompletes s).gradeList = s.gradeList ∧ (divisionCompletes s).tracker = s.tracker ∧
    (divisionCompletes s).lanes = s.lanes ∧ (divisionCompletes s).profiles = s.profiles ∧
    (divisionCompletes s).ring = s.ring ∧ (divisionCompletes s).store = s.store ∧
    (divisionCompletes s).returned = s.returned ∧ (divisionCompletes s).freeCount = s.freeCount ∧
    (divisionCompletes s).pending = s.pending := by
  unfold divisionCompletes
  (repeat' split) <;> simp

@[simp] theorem abandonAccess_frame (s : State) :
    (abandonAccess s).resetAsserted = s.resetAsserted ∧ (abandonAccess s).setupSel = s.setupSel ∧
    (abandonAccess s).partState = s.partState ∧ (abandonAccess s).shadow = s.shadow ∧
    (abandonAccess s).setup = s.setup ∧ (abandonAccess s).reload = s.reload ∧ (abandonAccess s).port = s.port ∧
    (abandonAccess s).tables = s.tables ∧ (abandonAccess s).gradeList = s.gradeList ∧
    (abandonAccess s).footage = s.footage ∧ (abandonAccess s).tracker = s.tracker ∧
    (abandonAccess s).lanes = s.lanes ∧ (abandonAccess s).mix = s.mix ∧ (abandonAccess s).divider = s.divider ∧
    (abandonAccess s).detector = s.detector ∧ (abandonAccess s).profiles = s.profiles ∧
    (abandonAccess s).ring = s.ring ∧ (abandonAccess s).returned = s.returned ∧ (abandonAccess s).pending = s.pending := by
  unfold abandonAccess
  (repeat' split) <;> simp

@[simp] theorem abandonOperation_frame (s : State) :
    (abandonOperation s).resetAsserted = s.resetAsserted ∧ (abandonOperation s).setupSel = s.setupSel ∧
    (abandonOperation s).partState = s.partState ∧ (abandonOperation s).shadow = s.shadow ∧
    (abandonOperation s).setup = s.setup ∧ (abandonOperation s).reload = s.reload ∧
    (abandonOperation s).port = s.port ∧ (abandonOperation s).tables = s.tables ∧
    (abandonOperation s).gradeList = s.gradeList ∧ (abandonOperation s).footage = s.footage ∧
    (abandonOperation s).tracker = s.tracker ∧ (abandonOperation s).lanes = s.lanes ∧
    (abandonOperation s).mix = s.mix ∧ (abandonOperation s).divider = s.divider ∧
    (abandonOperation s).detector = s.detector ∧ (abandonOperation s).ring = s.ring ∧
    (abandonOperation s).store = s.store ∧ (abandonOperation s).returned = s.returned ∧
    (abandonOperation s).pending = s.pending := by
  unfold abandonOperation
  (repeat' split) <;> simp

end Sys2Proof.Machine
end

