-- ==== Sys2Proof/Laws/Ops.lean ====
section
/-! SUPPORT. What the shared operations answer: the fields of the words that commands spell, per-table values, the ordered
list, the divider's slots, and the operations that do nothing when their occasion is absent. -/

namespace Sys2Proof.Machine

/-! ## The words that commands spell -/

theorem commandCodeOf_commandWord (c : BitVec 3) (a : CommandArgs) : commandCodeOf (commandWord c a) = c.toNat := by
  have : BitVec.extractLsb' 29 3 (c ++ a.profile ++ a.preset) = c := by
    apply BitVec.eq_of_getLsbD_eq
    intro i hi
    have h1 : ¬ 29 + i < 24 := by omega
    have h2 : ¬ 29 + i - 24 < 5 := by omega
    have h3 : 29 + i - 24 - 5 = i := by omega
    simp only [BitVec.getLsbD_extractLsb', BitVec.getLsbD_append, h1, h2, if_false, hi, h3]
    simp
  unfold commandCodeOf bits commandWord
  rw [this]

theorem profile_commandWord (c : BitVec 3) (a : CommandArgs) : bits (commandWord c a) 24 5 = a.profile.toNat := by
  have : BitVec.extractLsb' 24 5 (c ++ a.profile ++ a.preset) = a.profile := by
    apply BitVec.eq_of_getLsbD_eq
    intro i hi
    have h1 : ¬ 24 + i < 24 := by omega
    have h2 : 24 + i - 24 = i := by omega
    simp only [BitVec.getLsbD_extractLsb', BitVec.getLsbD_append, h1, if_false, hi, h2]
    simp [hi]
  unfold bits commandWord
  rw [this]

theorem preset_commandWord (c : BitVec 3) (a : CommandArgs) : signedBits (commandWord c a) 0 24 = a.preset.toInt := by
  have : BitVec.extractLsb' 0 24 (c ++ a.profile ++ a.preset) = a.preset := by
    apply BitVec.eq_of_getLsbD_eq
    intro i hi
    have h1 : i < 24 := by omega
    have h0 : 0 + i = i := by omega
    simp only [BitVec.getLsbD_extractLsb', BitVec.getLsbD_append, h0, hi, if_true]
    simp
  unfold signedBits commandWord
  rw [this]

theorem bit_controlWord (low : BitVec 24) {i : Nat} (h : i < 24) : bit (controlWord low) i = low.getLsbD i := by
  simp only [bit, controlWord, BitVec.getLsbD_append, h, if_true]

theorem isPicture_pictureWordOf (p : Rgb (BitVec 10)) : isPicture (pictureWordOf p) = true := by
  have : BitVec.extractLsb' 30 2 (0#2 ++ p.r ++ p.g ++ p.b) = 0#2 := by
    apply BitVec.eq_of_getLsbD_eq
    intro i hi
    have h1 : ¬ 30 + i < 10 := by omega
    have h2 : ¬ 30 + i - 10 < 10 := by omega
    have h3 : ¬ 30 + i - 10 - 10 < 10 := by omega
    simp only [BitVec.getLsbD_extractLsb', BitVec.getLsbD_append, h1, h2, h3, if_false]
    simp
  unfold isPicture bits pictureWordOf
  rw [this]
  rfl

theorem channels_pictureWordOf (p : Rgb (BitVec 10)) :
    channels (pictureWordOf p) = ⟨p.r.toNat, p.g.toNat, p.b.toNat⟩ := by
  have hr : BitVec.extractLsb' 20 10 (0#2 ++ p.r ++ p.g ++ p.b) = p.r := by
    apply BitVec.eq_of_getLsbD_eq
    intro i hi
    have h1 : ¬ 20 + i < 10 := by omega
    have h2 : ¬ 20 + i - 10 < 10 := by omega
    have h3 : 20 + i - 10 - 10 = i := by omega
    simp only [BitVec.getLsbD_extractLsb', BitVec.getLsbD_append, h1, h2, if_false, hi, h3]
    simp
  have hg : BitVec.extractLsb' 10 10 (0#2 ++ p.r ++ p.g ++ p.b) = p.g := by
    apply BitVec.eq_of_getLsbD_eq
    intro i hi
    have h1 : ¬ 10 + i < 10 := by omega
    have h2 : 10 + i - 10 = i := by omega
    simp only [BitVec.getLsbD_extractLsb', BitVec.getLsbD_append, h1, if_false, hi, h2]
    simp [hi]
  have hb : BitVec.extractLsb' 0 10 (0#2 ++ p.r ++ p.g ++ p.b) = p.b := by
    apply BitVec.eq_of_getLsbD_eq
    intro i hi
    have h0 : 0 + i = i := by omega
    simp only [BitVec.getLsbD_extractLsb', BitVec.getLsbD_append, h0, hi, if_true]
    simp
  unfold channels bits pictureWordOf
  rw [hr, hg, hb]

/-- A cell of `mixBits` holds the new bit where the mask is 1 and the old bit where it is 0. -/
theorem getLsbD_mixBits {n : Nat} (mask new old : BitVec n) (i : Nat) (h : i < n) :
    (mixBits mask new old).getLsbD i = if mask.getLsbD i then new.getLsbD i else old.getLsbD i := by
  unfold mixBits
  simp only [BitVec.getLsbD_or, BitVec.getLsbD_and, BitVec.getLsbD_not]
  cases mask.getLsbD i <;> simp [h]

/-! ## Per-table values -/

@[simp] theorem PerTable.get_set {α : Type} (p : PerTable α) (t u : TableId) (v : α) :
    (p.set t v).get u = if u = t then v else p.get u := by
  cases t <;> cases u <;> rfl

/-! ## The ordered list -/

theorem mem_insertEntry (e x : Entry) (l : List Entry) : x ∈ insertEntry e l ↔ x = e ∨ x ∈ l := by
  induction l with
  | nil => simp [insertEntry]
  | cons y l ih =>
    unfold insertEntry
    split
    · simp
    · simp only [List.mem_cons, ih]
      tauto

/-- An entry whose start frame no entry holds keeps a strictly rising list strictly rising. -/
theorem pairwise_insertEntry {e : Entry} {l : List Entry} (h : l.Pairwise (fun a b => a.fields.start < b.fields.start))
    (hf : ∀ x ∈ l, x.fields.start ≠ e.fields.start) :
    (insertEntry e l).Pairwise (fun a b => a.fields.start < b.fields.start) := by
  induction l with
  | nil => simp [insertEntry]
  | cons y l ih =>
    rw [List.pairwise_cons] at h
    unfold insertEntry
    split
    · rename_i hlt
      refine List.pairwise_cons.2 ⟨?_, List.pairwise_cons.2 h⟩
      intro x hx
      rcases List.mem_cons.1 hx with rfl | hx
      · exact hlt
      · exact lt_trans hlt (h.1 x hx)
    · rename_i hlt
      refine List.pairwise_cons.2 ⟨?_, ih h.2 fun x hx => hf x (List.mem_cons_of_mem _ hx)⟩
      intro x hx
      rcases (mem_insertEntry e x l).1 hx with rfl | hx
      · have := hf y (by simp)
        omega
      · exact h.1 x hx

theorem mem_removeSlot (i : Fin 512) (x : Entry) (l : List Entry) : x ∈ removeSlot i l ↔ x ∈ l ∧ x.slot ≠ i := by
  simp [removeSlot]

/-! ## The divider -/

@[simp] theorem Divider.slot_setSlot (d : Divider) (c k : Client) (r : Option Request) :
    (d.setSlot c r).slot k = if k = c then r else d.slot k := by
  cases c <;> cases k <;> rfl

@[simp] theorem Divider.inProgress_setSlot (d : Divider) (c : Client) (r : Option Request) :
    (d.setSlot c r).inProgress = d.inProgress := by
  cases c <;> rfl

/-! ## Report writes -/

theorem Record.length_words (r : Record) : r.words.length = r.length := by simp [Record.words, Record.length]

/-- Some of the words written from a ring offset on reach memory exactly when the first one does: addresses rise. -/
theorem ringCells_eq_nil (s : State) (o : Nat) (ws : List Word) :
    ringCells s o ws = [] ↔ ws = [] ∨ Config.storeBytes ≤ s.setup.ringBase + 4 * o := by
  cases ws with
  | nil => simp [ringCells]
  | cons w ws =>
    simp only [ringCells, List.filter_eq_nil_iff, List.mem_map, inStore, reduceCtorEq, false_or, decide_eq_true_eq]
    constructor
    · intro h
      have := h _ ⟨(w, 0), by simp, rfl⟩
      simpa using this
    · rintro h _ ⟨x, -, rfl⟩
      simp only
      omega

/-- R189, R184: the first report write of the record at the front of the queue. -/
theorem firstReportWrite_eq {s : State} {r : Record} {rest : List Record} (h : s.ring.queue = r :: rest) :
    firstReportWrite s =
      if s.setup.ringBase + 4 * s.ring.head.offset < Config.storeBytes ∧ s.ring.head.offset < s.setup.ringSize then
        .recordWords
      else if s.setup.ringBase < Config.storeBytes ∧ s.setup.ringSize - s.ring.head.offset < r.length then .recordWrapped
      else .recordHead := by
  have hl := Record.length_words r
  have h0 : 0 < r.length := by simp [Record.length]
  have hw : r.words ≠ [] := by intro hn; simp [hn] at hl; omega
  have h1 : (reportCells .recordWords s).isEmpty = true ↔
      ¬ (s.setup.ringBase + 4 * s.ring.head.offset < Config.storeBytes ∧ s.ring.head.offset < s.setup.ringSize) := by
    simp only [reportCells, List.isEmpty_iff, ringCells_eq_nil, oldestWords, h, List.take_eq_nil_iff, hw, wordsToTop,
      or_false, Nat.sub_eq_zero_iff_le]
    constructor <;> intro h <;> omega
  have h2 : (reportCells .recordWrapped s).isEmpty = true ↔
      ¬ (s.setup.ringBase < Config.storeBytes ∧ s.setup.ringSize - s.ring.head.offset < r.length) := by
    simp only [reportCells, List.isEmpty_iff, ringCells_eq_nil, oldestWords, h, List.drop_eq_nil_iff, hl, wordsToTop]
    omega
  unfold firstReportWrite afterRecordWords
  split_ifs <;> simp_all

/-! ## The reload engine -/

/-- A part whose first word lies in the store is issued (R22). -/
theorem partInStore_rest {u : Setup} {ref : ItemRef} (h : itemAddress u ref 1 < Config.storeBytes) :
    partInStore u ref .rest = true := by
  unfold partInStore partOffsets inStore
  rw [List.any_eq_true]
  refine ⟨1, ?_, by simpa using h⟩
  cases ref <;> simp [ItemRef.table, TableId.restWords]

/-! ## Operations without an occasion -/

theorem forwardWaiting_nil {s : State} (h : s.port.waiting = []) : forwardWaiting s = s := by
  cases s with
  | mk ra ss ps sh se re po ta gl fo tr la mi di de pr ri st rt fc pe =>
    cases po
    simp_all [forwardWaiting, State.withPort]

theorem closeFrame_none {s : State} (h : s.tracker.openFrame = none) (complete : Bool) : closeFrame complete s = s := by
  simp [closeFrame, h]

theorem requestPublication_clear {s : State} (h : s.ring.publication = false) : requestPublication s = s := by
  simp [requestPublication, h]

theorem resumeReload_outstanding {s : State} (h : reloadOutstanding s.port = true) : resumeReload s = s := by
  simp [resumeReload, leaveLoading, h]

end Sys2Proof.Machine
end

