-- ==== Sys2Proof/Laws/Step.lean ====
section
/-! SUPPORT. What a step can be, and what a command can answer: a proof about every step looks at these cases and at no
command's meaning. -/

namespace Sys2Proof.Machine

/-- A step that answers a next state is one µs of the time base, or the command at the front of the queue. -/
theorem step_next {s s' : State} (h : step s = .next s') :
    (s.pending = [] ∧ s' = tick s) ∨
      ∃ c rest, s.pending = c :: rest ∧ exec c (s.withPending rest) = .next s' := by
  unfold step at h
  split at h
  · next c rest hp => exact .inr ⟨c, rest, hp, h⟩
  · next hp => exact .inl ⟨hp, by simpa using h.symm⟩

/-- A command that answers a next state is a transaction that arrives, or one of the part's own events. A transaction's
first word stands at a word address, or at the address of a table item. -/
theorem exec_next {c : Instr} {s s' : State} (h : exec c s = .next s') :
    (∃ t, busTransaction s c = some t ∧ s' = arrive t s
        ∧ (t.address % 4 = 0 ∨ ∃ ref o, t.address = itemAddress s.setup ref o)) ∨
      (s' = assertReset s ∧ (c = .rstAssert ∨ c = .powerLoss)) ∨ (∃ b, s' = releaseReset b s ∧ c = .rstRelease b) ∨
      s' = setupReadCompletes s ∨ s' = reloadReadCompletes s ∨ s' = issueOwnAccess s ∨
      (∃ d, s' = perforationEdge d s) ∨ s' = expireIfDue s ∨ s' = endCueIfDue s ∨ s' = divisionCompletes s ∨
      (∃ k, s' = completeCellWrite k s) ∨ s' = completeVerify s ∨ s' = timeOutIfDue s ∨ s' = selectRecord s ∨
      s' = reportWriteCompletes s := by
  have aligned : ∀ k : Nat, setupAddress s k % 4 = 0 := by intro k; simp [setupAddress, setupBase]; omega
  cases c with
  | passedTransaction t =>
      simp only [exec, execPassedTransaction] at h
      split at h
      · next hw =>
          refine .inl ⟨t, rfl, by simpa using h.symm, .inl ?_⟩
          simp [Transaction.wellFormed] at hw
          omega
      · cases h
  | setupWrite m k w => exact .inl ⟨_, rfl, by cases h; rfl, .inl (aligned _)⟩
  | layoutRevisionWrite m w =>
      exact .inl ⟨_, rfl, by cases h; rfl, .inl (aligned _)⟩
  | enable m low => exact .inl ⟨_, rfl, by cases h; rfl, .inl (aligned _)⟩
  | attnEnable m low =>
      exact .inl ⟨_, rfl, by cases h; rfl, .inl (aligned _)⟩
  | consumerIndexWrite m w =>
      exact .inl ⟨_, rfl, by cases h; rfl, .inl (aligned _)⟩
  | restart m k w => exact .inl ⟨_, rfl, by cases h; rfl, .inl (aligned _)⟩
  | retarget m t w => exact .inl ⟨_, rfl, by cases h; rfl, .inl (aligned _)⟩
  | ringReset m k w => exact .inl ⟨_, rfl, by cases h; rfl, .inl (aligned _)⟩
  | legalWordWrite m w =>
      exact .inl ⟨_, rfl, by cases h; rfl, .inl (aligned _)⟩
  | ppfChange m w => exact .inl ⟨_, rfl, by cases h; rfl, .inl (aligned _)⟩
  | unnamedCommandCode m c a =>
      exact .inl ⟨_, rfl, by cases h; rfl, .inl (aligned _)⟩
  | framePreset m a => exact .inl ⟨_, rfl, by cases h; rfl, .inl (aligned _)⟩
  | reloadAll m a => exact .inl ⟨_, rfl, by cases h; rfl, .inl (aligned _)⟩
  | programProfile m a =>
      exact .inl ⟨_, rfl, by cases h; rfl, .inl (aligned _)⟩
  | readProfile m a => exact .inl ⟨_, rfl, by cases h; rfl, .inl (aligned _)⟩
  | tableWordWrite m i w =>
      exact .inl ⟨_, rfl, by cases h; rfl, .inr ⟨_, _, rfl⟩⟩
  | partialWrite m a w l =>
      exact .inl ⟨_, rfl, by cases h; rfl, .inl (by simp)⟩
  | slotCommit m i w =>
      exact .inl ⟨_, rfl, by cases h; rfl, .inr ⟨_, _, rfl⟩⟩
  | recordCommit m i w =>
      exact .inl ⟨_, rfl, by cases h; rfl, .inr ⟨_, _, rfl⟩⟩
  | curveCommit m i w =>
      exact .inl ⟨_, rfl, by cases h; rfl, .inr ⟨_, _, rfl⟩⟩
  | windowCommit m i w =>
      exact .inl ⟨_, rfl, by cases h; rfl, .inr ⟨_, _, rfl⟩⟩
  | pictureWord a p =>
      exact .inl ⟨_, rfl, by cases h; rfl, .inl (by simp [wordWrite])⟩
  | rstAssert => exact .inr (.inl ⟨by cases h; rfl, .inl rfl⟩)
  | powerLoss => exact .inr (.inl ⟨by cases h; rfl, .inr rfl⟩)
  | rstRelease b => exact .inr (.inr (.inl ⟨b, by cases h; rfl, rfl⟩))
  | setupReadComplete => cases h; simp
  | reloadReadComplete => cases h; simp
  | ownAccessIssue => cases h; simp
  | perfEdge d =>
      have h : perforationEdge d s = s' := by simpa [exec, execPerfEdge] using h
      exact .inr (.inr (.inr (.inr (.inr (.inr (.inl ⟨d, h.symm⟩))))))
  | stopLimitExpiry => cases h; simp
  | cuePulseEnd => cases h; simp
  | divisionComplete => cases h; simp
  | cellWriteComplete k =>
      have h : completeCellWrite k s = s' := by simpa [exec, execCellWriteComplete] using h
      exact .inr (.inr (.inr (.inr (.inr (.inr (.inr (.inr (.inr (.inr (.inl ⟨k, h.symm⟩))))))))))
  | profileVerify => cases h; simp
  | programTimeout => cases h; simp
  | recordSelect => cases h; simp
  | reportWriteComplete => cases h; simp

/-! ## A property that every step keeps -/

/-- A word that lies in a table's window finds the part outside UNSET (R3). -/
theorem classify_table {s : State} {a : Nat} {ref : ItemRef} {o : Nat} (h : classify s a = .table ref o) :
    s.partState ≠ .unset := by
  intro hu
  simp only [classify, windowsInOrder, hu, if_true] at h
  simp only [setupPlace, windowOffset] at h
  split at h <;> simp [List.findSome?] at h

/-- What a forwarded word can do: pass, raise a fault, be captured, or reach the Frame Tracker (R4, R5). -/
theorem forwardWord_keeps {P : State → Prop} (pass : ∀ a w s, inStore a = true → P s → P (passWord a w s))
    (fault : ∀ f s, P s → P (stageFault f s)) (setup : ∀ k w s, P s → P (captureSetup k w s))
    (table : ∀ ref o w s, s.partState ≠ .unset → P s → P (captureTableWord ref o w s))
    (picture : ∀ b a o w s, s.partState = .active → inStore a = true → P s → P (pictureWord b a o w s)) :
    ∀ m a w s, P s → P (forwardWord m a w s) := by
  intro m a w s h
  unfold forwardWord
  split
  · next ha =>
      split
      · exact pass _ _ _ ha h
      · split
        · unfold forwardFull
          split
          · exact setup _ _ _ (pass _ _ _ ha h)
          · next hc => exact table _ _ _ _ (by simpa using classify_table hc) (pass _ _ _ ha h)
          · exact pass _ _ _ ha h
          · split
            · next he =>
                simp only [examinesPicture, Bool.and_eq_true, decide_eq_true_eq] at he
                exact picture _ _ _ _ _ he.1.2 ha h
            · exact pass _ _ _ ha h
          · exact pass _ _ _ ha h
        · unfold forwardPartial
          dsimp only
          split
          · exact fault _ _ (pass _ _ _ ha h)
          · exact pass _ _ _ ha h
  · exact h

/-- A property that every forwarded word keeps, and that looks neither at the words returned nor at the transactions that
wait, is kept by a transaction's arrival and by the forwarding of those that waited. -/
theorem arrive_keeps {P : State → Prop} (word : ∀ m a w s, P s → P (forwardWord m a w s))
    (returned : ∀ v s, P s → P (s.withReturned v))
    (waiting : ∀ ts s, P s → P (s.withPort { s.port with waiting := ts })) :
    (∀ t s, P s → P (arrive t s)) ∧ ∀ s, P s → P (forwardWaiting s) := by
  have words : ∀ m ws a s, P s → P (forwardWords m a ws s) := by
    intro m ws
    induction ws with
    | nil => intro a s h; exact h
    | cons w ws ih => intro a s h; exact ih _ _ (word m a w s h)
  have whole : ∀ t s, P s → P (forwardTransaction t s) := by
    intro t s h
    unfold forwardTransaction
    split
    · exact words _ _ _ _ h
    · exact returned _ _ h
  refine ⟨fun t s h => ?_, fun s h => ?_⟩
  · unfold arrive
    split
    · exact waiting _ _ h
    · exact whole t s h
  · unfold forwardWaiting
    generalize s.port.waiting = ts
    have h := waiting [] s h
    generalize s.withPort { s.port with waiting := [] } = u at h
    induction ts generalizing u with
    | nil => exact h
    | cons t ts ih => exact ih _ (whole t u h)

/-- A property is kept by every step when the effects of which steps are made keep it. -/
theorem step_keeps {P : State → Prop} (pending : ∀ v s, P s → P (s.withPending v))
    (word : ∀ m a w s, P s → P (forwardWord m a w s)) (returned : ∀ v s, P s → P (s.withReturned v))
    (waiting : ∀ ts s, P s → P (s.withPort { s.port with waiting := ts }))
    (reset : ∀ s, P s → P (resetBlocks (abandonOperation (abandonAccess s))))
    (release : ∀ b s, P s → P (releaseReset b s))
    (setupRead : ∀ q d s, s.port.inProgress = some (.reload (.setup q) d) → P s → P (completeSetupRead q (freePort s)))
    (tableRead : ∀ ref p d s, s.port.inProgress = some (.reload (.item ref p) d) → P s →
      P (completeTableRead ref p d (freePort s)))
    (report : ∀ w cells d s, s.port.inProgress = some (.report w cells d) → P s →
      P (reportWriteDone w cells d (freePort s)))
    (issue : ∀ s, P s → P (issueOwnAccess s)) (edge : ∀ d s, P s → P (perforationEdge d s))
    (stop : ∀ s, P s → P (expireIfDue s)) (cue : ∀ s, P s → P (endCueIfDue s))
    (division : ∀ s, P s → P (divisionCompletes s)) (cells : ∀ k s, P s → P (completeCellWrite k s))
    (verify : ∀ s, P s → P (completeVerify s)) (timeOut : ∀ s, P s → P (timeOutIfDue s))
    (select : ∀ s, P s → P (selectRecord s)) (tick : ∀ s, P s → P (tick s)) {s s' : State} (h : P s)
    (hs : step s = .next s') : P s' := by
  obtain ⟨arrival, release'⟩ := arrive_keeps word returned waiting
  rcases step_next hs with ⟨-, rfl⟩ | ⟨c, rest, -, hc⟩
  · exact tick s h
  · have h := pending rest s h
    generalize s.withPending rest = u at h hc
    rcases exec_next hc with ⟨t, -, rfl, -⟩ | ⟨rfl, -⟩ | ⟨b, rfl, -⟩ | rfl | rfl | rfl | ⟨d, rfl⟩ | rfl | rfl | rfl |
      ⟨k, rfl⟩ | rfl | rfl | rfl | rfl
    · exact arrival t u h
    · exact release' _ (reset u h)
    · exact release b u h
    · unfold setupReadCompletes
      split
      · next q d hp => exact release' _ (setupRead q d u hp h)
      all_goals exact h
    · unfold reloadReadCompletes
      split
      · next ref p d hp => exact release' _ (tableRead ref p d u hp h)
      all_goals exact h
    · exact issue u h
    · exact edge d u h
    · exact stop u h
    · exact cue u h
    · exact division u h
    · exact cells k u h
    · exact verify u h
    · exact timeOut u h
    · exact select u h
    · unfold reportWriteCompletes
      split
      · next w cs d hp => exact release' _ (report w cs d u hp h)
      all_goals exact h

end Sys2Proof.Machine
end

