-- ==== Sys2Proof/Laws/Store.lean ====
section
/-! SUPPORT. The frame store: what a read gives after a write, and that every write keeps the canonical form. -/

namespace Sys2Proof.Machine

/-- The keys of a store rise strictly. -/
abbrev Memory.rising (m : List Host.Cell) : Prop := m.Pairwise (fun c d => c.1 < d.1)

/-- An address below every key of a store is not listed. -/
theorem readByte_of_below {m : List Host.Cell} {a : Nat} (h : ∀ c ∈ m, a < c.1) : readByte m a = unwrittenByte := by
  induction m with
  | nil => rfl
  | cons c rest ih =>
      have h0 : ¬ c.1 = a := by have := h c (by simp); omega
      simpa [readByte, h0] using ih fun d hd => h d (by simp [hd])

/-- A byte read after a byte is written: the byte written at its own address, what stood there at every other. -/
theorem readByte_writeByte {m : List Host.Cell} (h : Memory.rising m) (a : Nat) (v : Byte) (b : Nat) :
    readByte (writeByte m a v) b = if b = a then v else readByte m b := by
  induction m with
  | nil => unfold writeByte; split <;> simp_all [readByte, eq_comm]
  | cons c rest ih =>
      obtain ⟨k, x⟩ := c
      rw [Memory.rising, List.pairwise_cons] at h
      have below : ∀ d ∈ rest, k < d.1 := h.1
      have ih := ih h.2
      unfold writeByte
      split
      · split
        · next hk hv =>
            split
            · next hb =>
                subst hb
                have := readByte_of_below (m := (k, x) :: rest) (a := b)
                  (by intro d hd; rcases List.mem_cons.1 hd with rfl | hd'
                      · exact hk
                      · have := below d hd'; omega)
                rw [this, hv]
            · rfl
        · next hk hv =>
            by_cases hb : b = a
            · simp [readByte, hb]
            · have hb' : ¬ a = b := fun e => hb e.symm
              simp [readByte, hb, hb']
      · split
        · next hk hak =>
            subst hak
            split
            · next hv =>
                by_cases hb : b = a
                · subst hb; simp [readByte_of_below (m := rest) (a := b) below, hv]
                · have hb' : ¬ a = b := fun e => hb e.symm
                  simp [readByte, hb, hb']
            · by_cases hb : b = a
              · simp [readByte, hb]
              · have hb' : ¬ a = b := fun e => hb e.symm
                simp [readByte, hb, hb']
        · next hk hak =>
            by_cases hkb : k = b
            · subst hkb
              have hne : ¬ k = a := fun e => hak e.symm
              simp [readByte, hne]
            · simp [readByte, hkb, ih]

/-- Every entry of a store after a byte is written is the entry written or an entry that stood there. -/
theorem mem_writeByte {m : List Host.Cell} {a : Nat} {v : Byte} {c : Host.Cell} (h : c ∈ writeByte m a v) :
    (c = (a, v) ∧ v ≠ unwrittenByte) ∨ c ∈ m := by
  induction m with
  | nil => unfold writeByte at h; split at h <;> simp_all
  | cons d rest ih =>
      obtain ⟨k, x⟩ := d
      unfold writeByte at h
      split at h
      · split at h <;> simp_all
      · split at h
        · split at h
          · exact .inr (by simp [h])
          · rcases List.mem_cons.1 h with h | h
            · exact .inl ⟨h, by assumption⟩
            · exact .inr (by simp [h])
        · rcases List.mem_cons.1 h with h | h
          · exact .inr (by simp [h])
          · rcases ih h with h | h
            · exact .inl h
            · exact .inr (by simp [h])

theorem rising_writeByte {m : List Host.Cell} (h : Memory.rising m) (a : Nat) (v : Byte) :
    Memory.rising (writeByte m a v) := by
  induction m with
  | nil => unfold writeByte; split <;> simp [Memory.rising]
  | cons d rest ih =>
      obtain ⟨k, x⟩ := d
      have h' := h
      rw [Memory.rising, List.pairwise_cons] at h'
      obtain ⟨below, hr⟩ := h'
      unfold writeByte
      split
      · next hk =>
          split
          · exact h
          · refine List.pairwise_cons.2 ⟨?_, h⟩
            intro e he
            rcases List.mem_cons.1 he with rfl | he
            · exact hk
            · have := below e he; simp only at this ⊢; omega
      · split
        · next hak =>
            subst hak
            split
            · exact hr
            · exact List.pairwise_cons.2 ⟨below, hr⟩
        · refine List.pairwise_cons.2 ⟨?_, ih hr⟩
          intro e he
          rcases mem_writeByte he with ⟨rfl, -⟩ | he
          · simp only; omega
          · exact below e he

/-- A byte write keeps the canonical form. -/
theorem wf_writeByte {m : List Host.Cell} (h : Memory.wf m) (a : Nat) (v : Byte) : Memory.wf (writeByte m a v) := by
  refine ⟨rising_writeByte h.1 a v, fun c hc => ?_⟩
  rcases mem_writeByte hc with ⟨rfl, hv⟩ | hc
  · exact hv
  · exact h.2 c hc

theorem wf_writeLane {m : List Host.Cell} (h : Memory.wf m) (a : Nat) (w : Word) (lanes : ByteLanes) (i : Nat) :
    Memory.wf (writeLane m a w lanes i) := by
  unfold writeLane
  split
  · exact wf_writeByte h _ _
  · exact h

/-- A word write keeps the canonical form. -/
theorem wf_writeLanes {m : List Host.Cell} (h : Memory.wf m) (a : Nat) (w : Word) (lanes : ByteLanes) :
    Memory.wf (writeLanes m a w lanes) :=
  wf_writeLane (wf_writeLane (wf_writeLane (wf_writeLane h ..) ..) ..) ..

theorem wf_writeWord {m : List Host.Cell} (h : Memory.wf m) (a : Nat) (w : Word) : Memory.wf (writeWord m a w) :=
  wf_writeLanes h a w fullLanes

theorem wf_writeCells {m : List Host.Cell} (h : Memory.wf m) (cells : List (Nat × Word)) :
    Memory.wf (writeCells m cells) := by
  unfold writeCells
  induction cells generalizing m with
  | nil => exact h
  | cons c rest ih => exact ih (wf_writeWord h c.1 c.2)

theorem rising_writeLane {m : List Host.Cell} (h : Memory.rising m) (a : Nat) (w : Word) (lanes : ByteLanes) (i : Nat) :
    Memory.rising (writeLane m a w lanes i) := by
  unfold writeLane
  split
  · exact rising_writeByte h _ _
  · exact h

theorem readByte_writeLane {m : List Host.Cell} (h : Memory.rising m) (a : Nat) (w : Word) (lanes : ByteLanes)
    (i b : Nat) :
    readByte (writeLane m a w lanes i) b =
      if lanes.getLsbD i = true ∧ b = a + i then laneByte w i else readByte m b := by
  unfold writeLane
  split
  · next hl => simp [readByte_writeByte h, hl]
  · next hl => simp [hl]

/-- A byte read after a word is written with its lane enables: the word's byte in an enabled lane, and what stood there
everywhere else. -/
theorem readByte_writeLanes {m : List Host.Cell} (h : Memory.rising m) (a : Nat) (w : Word) (lanes : ByteLanes)
    (b : Nat) :
    readByte (writeLanes m a w lanes) b =
      if a ≤ b ∧ b < a + 4 ∧ lanes.getLsbD (b - a) = true then laneByte w (b - a) else readByte m b := by
  have h0 := rising_writeLane h a w lanes 0
  have h1 := rising_writeLane h0 a w lanes 1
  have h2 := rising_writeLane h1 a w lanes 2
  unfold writeLanes
  rw [readByte_writeLane h2, readByte_writeLane h1, readByte_writeLane h0, readByte_writeLane h]
  by_cases hb : a ≤ b ∧ b < a + 4
  · obtain ⟨i, hi, rfl⟩ : ∃ i, i < 4 ∧ b = a + i := ⟨b - a, by omega, by omega⟩
    interval_cases i <;> simp
  · have e : ∀ i, i < 4 → ¬ b = a + i := by intro i hi e; exact hb ⟨by omega, by omega⟩
    have e' : ¬ (a ≤ b ∧ b < a + 4 ∧ lanes.getLsbD (b - a) = true) := fun hh => hb ⟨hh.1, hh.2.1⟩
    have e0 : ¬ b = a := e 0 (by omega)
    simp [e0, e 1, e 2, e 3, e']

theorem rising_writeLanes {m : List Host.Cell} (h : Memory.rising m) (a : Nat) (w : Word) (lanes : ByteLanes) :
    Memory.rising (writeLanes m a w lanes) :=
  rising_writeLane (rising_writeLane (rising_writeLane (rising_writeLane h ..) ..) ..) ..

/-- A full word write leaves every byte outside its four as it was. -/
theorem readByte_writeWord_outside {m : List Host.Cell} (h : Memory.rising m) {a : Nat} {w : Word} {b : Nat}
    (hb : b < a ∨ a + 4 ≤ b) : readByte (writeWord m a w) b = readByte m b := by
  unfold writeWord
  rw [readByte_writeLanes h, if_neg (by omega)]

/-- A word read at the address a full word was written to is that word. -/
theorem readWord_writeWord {m : List Host.Cell} (h : Memory.rising m) (a : Nat) (w : Word) :
    readWord (writeWord m a w) a = w := by
  unfold readWord writeWord
  simp only [readByte_writeLanes h]
  simp only [laneByte, Nat.le_add_right, Nat.add_lt_add_iff_left, Nat.add_sub_cancel_left, Nat.sub_self, le_refl]
  have hw : BitVec.extractLsb' 24 8 w ++ BitVec.extractLsb' 16 8 w ++ BitVec.extractLsb' 8 8 w
      ++ BitVec.extractLsb' 0 8 w = w := by
    apply BitVec.eq_of_getLsbD_eq
    intro i hi
    simp only [BitVec.getLsbD_append, BitVec.getLsbD_extractLsb']
    by_cases h0 : i < 8
    · simp [h0]
    · by_cases h1 : i - 8 < 8
      · have : 8 + (i - 8) = i := by omega
        simp [h0, h1, this]
      · by_cases h2 : i - 8 - 8 < 8
        · have : 16 + (i - 8 - 8) = i := by omega
          simp [h0, h1, h2, this]
        · have h3 : i - 8 - 8 - 8 < 8 := by omega
          have : 24 + (i - 8 - 8 - 8) = i := by omega
          simp [h0, h1, h2, h3, this]
  simpa using hw

end Sys2Proof.Machine
end

