-- ==== Sys2Proof/Laws/Traffic.lean ====
section
/-! SUPPORT. What the arrival of a transaction comes to when the port is open, window by window. -/

namespace Sys2Proof.Machine

/-! ## Addresses -/

theorem inStore_setupAddress (s : State) (k : Fin 64) : inStore (setupAddress s k.val) = true := by
  have h1 := s.setupSel.isLt
  have h2 := k.isLt
  unfold inStore
  rw [decide_eq_true_eq]
  unfold setupAddress setupBase Config.storeBytes
  omega

/-- The word offset of an address that lies `4 × o` bytes above a window's first byte. -/
theorem windowOffset_add {base words o : Nat} (h : o < words) : windowOffset base words (base + 4 * o) = some o := by
  have h1 : base + 4 * o - base = 4 * o := by omega
  have h2 : 4 * o / 4 = o := by omega
  unfold windowOffset
  rw [h1, h2, if_pos ⟨by omega, h⟩]

/-- R3: a setup word belongs to the setup block, in every part state. -/
theorem classify_setupAddress (s : State) (k : Fin 64) : classify s (setupAddress s k.val) = .setup k := by
  have hp : setupPlace s (setupAddress s k.val) = some (.setup k) := by
    unfold setupPlace setupAddress
    rw [windowOffset_add k.isLt]
    simp
  unfold classify windowsInOrder
  rw [hp]
  split <;> rfl

/-- The address of a word of the store is in the store. -/
theorem inStore_wordAddress (a : BitVec 24) : inStore (4 * a.toNat) = true := by
  have := a.isLt
  unfold inStore
  rw [decide_eq_true_eq]
  unfold Config.storeBytes
  omega

/-! ## One word with the port open -/

/-- R6: what the port's coming free does. -/
theorem forwardWaiting_eq (s : State) :
    forwardWaiting s = forwardedInOrder s.port.waiting (s.withPort { s.port with waiting := [] }) := rfl

@[simp] theorem forwardedInOrder_nil (s : State) : forwardedInOrder [] s = s := rfl

@[simp] theorem forwardedInOrder_cons (t : Transaction) (ts : List Transaction) (s : State) :
    forwardedInOrder (t :: ts) s = forwardedInOrder ts (forwardTransaction t s) := rfl

theorem arrive_open {s : State} (h : PortOpen s) (t : Transaction) : arrive t s = forwardTransaction t s := by
  simp [arrive, h.2]

theorem arrive_wordWrite {s : State} (h : PortOpen s) (m : Master) (a : Nat) (w : Word) :
    arrive (wordWrite m a w) s = forwardWord m a ⟨w, fullLanes⟩ s := by
  simp [arrive_open h, forwardTransaction, wordWrite, forwardWords]

/-- A full word in the store is handled by its window. -/
theorem forwardWord_full {s : State} (h : PortOpen s) {a : Nat} (ha : inStore a = true) (m : Master) (w : Word) :
    forwardWord m a ⟨w, fullLanes⟩ s = forwardFull m a w s := by
  simp [forwardWord, ha, h.1]

theorem passWord_full (a : Nat) (w : Word) (s : State) : passWord a ⟨w, fullLanes⟩ s = writtenAt a w s := rfl

/-- A full write of a setup word passes and is captured. -/
theorem arriveSetupWord_open {s : State} (h : PortOpen s) (m : Master) (k : Fin 64) (w : Word) :
    arriveSetupWord m k w s = captureSetup k w (writtenAt (setupAddress s k.val) w s) := by
  rw [arriveSetupWord, arrive_wordWrite h, forwardWord_full h (inStore_setupAddress s k), forwardFull,
    classify_setupAddress, passWord_full]

/-- R8: outside UNSET the shadow word is replaced and the fields are taken, unless word 0 has another revision. -/
theorem captureSetup_taken {s : State} (hu : SetupTaken s) {k : Fin 64} (hk : setupWordAt k ≠ .head) (w : Word) :
    captureSetup k w s = captureInUse (setupWordAt k) w (s.withShadow (s.shadow.set k.val w)) := by
  unfold SetupTaken at hu
  unfold captureSetup
  rw [if_neg hk]
  cases hp : s.partState <;> simp_all

/-- R8: in UNSET the shadow word is replaced, and word 0 is examined. -/
theorem captureSetup_unset {s : State} (hu : s.partState = .unset) {k : Fin 64} (hk : setupWordAt k ≠ .head) (w : Word) :
    captureSetup k w s = captureInUnset (setupWordAt k) w (s.withShadow (s.shadow.set k.val w)) := by
  unfold captureSetup
  rw [if_neg hk]
  simp [hu]

/-- A full write of a setup word other than word 0 and the head word, outside UNSET: its fields are taken. -/
theorem arriveSetupWord_taken {s : State} (h : PortOpen s) (hu : SetupTaken s) (m : Master) {k : Fin 64}
    (hk : setupWordAt k ≠ .head) (h0 : setupWordAt k ≠ .control) (w : Word) :
    arriveSetupWord m k w s = takeWord (setupWordAt k) w (capturedAt k w s) := by
  rw [arriveSetupWord_open h, captureSetup_taken (by simpa [SetupTaken, writtenAt] using hu) hk]
  simp [captureInUse, h0, capturedAt, writtenAt]

/-- A full write of setup word 0 with revision 1, outside UNSET: its fields are taken. -/
theorem arriveSetupWord_control {s : State} (h : PortOpen s) (hu : SetupTaken s) (m : Master) {w : Word}
    (hr : revisionOf w = 1) : arriveSetupWord m 0 w s = takeWord .control w (capturedAt 0 w s) := by
  rw [arriveSetupWord_open h, captureSetup_taken (by simpa [SetupTaken, writtenAt] using hu) (by decide)]
  simp [captureInUse, hr, capturedAt, writtenAt, setupWordAt, setupLayout]

/-- A full write of a table word that reaches its item is captured. -/
theorem arriveTableWord_open {s : State} (h : PortOpen s) (m : Master) {ref : ItemRef} {o : Nat}
    (hr : ReachesItem ref o s) (w : Word) :
    arriveTableWord m ref o w s = captureTableWord ref o w (writtenAt (itemAddress s.setup ref o) w s) := by
  rw [arriveTableWord, arrive_wordWrite h, forwardWord_full h hr.1, forwardFull, hr.2, passWord_full]

/-- The revision of a control word is 1. -/
theorem revisionOf_controlWord (low : BitVec 24) : revisionOf (controlWord low) = 1 := by
  unfold revisionOf bits controlWord
  have : BitVec.extractLsb' 24 8 (1#8 ++ low) = 1#8 := by
    apply BitVec.eq_of_getLsbD_eq
    intro i hi
    have h24 : ¬ 24 + i < 24 := by omega
    have : 24 + i - 24 = i := by omega
    simp only [BitVec.getLsbD_extractLsb', BitVec.getLsbD_append, h24, if_false, hi, this]
    simp
  rw [this]
  rfl

end Sys2Proof.Machine
end

