-- ==== Sys2Proof/Tests/Slice0.lean ====
section
/-! SUPPORT. The checks of this model: ill-formed terms that WellFormed refuses, the worked examples of the manual, and for
every statement with hypotheses a theorem that names a state and operands which meet them. -/

open Sys2Proof Sys2Proof.Machine

namespace Sys2Proof.Tests

/-! ## Well-formedness -/

theorem test_empty_burst_refused :
    (Instr.passedTransaction { master := .control, address := 0, body := .write [] }).wellFormed = false := by decide

theorem test_long_burst_refused :
    (Instr.passedTransaction { master := .output, address := 0, body := .read 17 }).wellFormed = false := by decide

theorem test_unaligned_burst_refused :
    (Instr.passedTransaction { master := .output, address := 2, body := .read 1 }).wellFormed = false := by decide

theorem test_address_past_store_refused :
    (Instr.passedTransaction { master := .output, address := 0x4000000, body := .read 1 }).wellFormed = false := by decide

theorem test_head_word_is_no_setup_write : (Instr.setupWrite .control 3 0).wellFormed = false := by decide

theorem test_full_word_is_no_partial_write : (Instr.partialWrite .control 0 0 15).wellFormed = false := by decide

theorem test_longest_burst_accepted :
    (Instr.passedTransaction { master := .aux, address := 0x3FFFFFC, body := .read 16 }).wellFormed = true := by decide

theorem test_no_word_spells_a_command : decodeTableWord 32 0 = none := by decide

/-! ## Small states -/

/-- An ACTIVE part with a small picture, the session's windows (section 11.3) and nothing under way. -/
def base : State :=
  { State.held with
    resetAsserted := false
    partState := .active
    setup := { Setup.reset with
      attnEnable := true, enable := true, width := 96, height := 64, ringBase := 0x0105000, ringSize := 256
      bufferBase := #v[0x0800000, 0x1000000, 0x1800000, 0x2000000]
      tableBase := ⟨0x0100000, 0x0102000, 0x0104000, 0x0104800⟩ } }

def withAccess (a : OwnAccess) (s : State) : State := s.withPort { s.port with inProgress := some a }

/-- `s` with a read of memory that waits for the own access in progress. -/
def withWaiting (s : State) : State :=
  s.withPort { s.port with waiting := [{ master := .aux, address := 0x40, body := .read 1 }] }

def entry (slot : Fin 512) (start : Int) (dissolve : Nat) : Entry :=
  { slot := slot
    fields := { start := start, grade := 10, profile := 7, dissolve := dissolve, window := none, windowGrade := none
                holdScd := false } }

/-- The list of the lookup example of the chapter The Grade List. -/
def list4 : List Entry := [entry 0 1000 0, entry 5 1100 0, entry 1 1120 24, entry 2 1180 0]

/-- A frame that `base` could have open. -/
def frame0 : OpenFrame :=
  { buffer := 0, number := 3044, transport := .running, direction := .forward, speed := 2399, lookup := .noEntry
    setup := { Setup.reset.frame with summaryEnable := true, scdEnable := true, speedLo := 2000, speedHi := 3000 }
    substitution := .none, wordsGraded := 1, clipLow := 0, clipHigh := 0, flags := FrameFlags.clear }

def opened : State := base.withTracker { base.tracker with openFrame := some frame0 }

/-- The transport of the worked example of chapter 2 at the edge of 131,251. -/
def running : State :=
  { base with
    setup := { base.setup with perfGuard := 200 }
    footage := { base.footage with
      number := 1000, phase := 3, transport := .running, lastEdge := some 120834, interval := some 10417
      clock := 131251 } }

def programming : State :=
  base.withProfiles
    { base.profiles with
      operation := some
        { number := 7, values := ⟨true, ⟨43, 153, 323⟩, ⟨1309, 1454, 1806⟩⟩, limit := 5000, acceptedAt := 0
          phase := .writing } }

/-- The ring of the first worked example of chapter 10, after the SUMMARY. -/
def ringed (q : List Record) : State :=
  base.withRing { base.ring with queue := q, head := ⟨255, false⟩, consumer := ⟨200, false⟩ }

def cutRecord : Record := .cut { frame := 3058, changed := 287, known := false, slot := some 1, speed := 2399 }

/-! ## Worked examples -/

/-- Chapter 12, one slot: the fields of slot 1. -/
theorem test_slot_fields :
    (Committed.slotFields ⟨0x80000BE0, #v[0x000C0715, 0, 0]⟩) =
      { start := 3040, grade := 21, profile := 7, dissolve := 12, window := none, windowGrade := none
        holdScd := false } := by decide

/-- R198, R200: a start frame of −5 is read as written. -/
theorem test_negative_start : (Committed.slotFields ⟨0x80FFFFFB, #v[0, 0, 0]⟩).start = -5 := by decide

/-- Chapter 12, the summary of frame 3,044. -/
theorem test_summary_words :
    (Record.frameSummary
      { number := 3044, buffer := 0, transport := .running, direction := .forward, inSlot := some 1, outSlot := some 0
        j := 5, m := 98, wordsGraded := 2073600, orphans := 0, clipLow := 0, clipHigh := 0
        flags := { FrameFlags.clear with mixLate := true }, outcome := .judged 3 .noCut, speed := 2399, glitches := 0
        lost := 0 }).words =
      [0x0100000B, 0x40000BE4, 0x80018000, 0x00620005, 2073600, 0, 0, 0, 0x80030002, 2399, 0] := by decide

/-- Chapter 11: the refused consumer word 190/1 with head 184/1 makes a FAULT of four words. -/
theorem test_consumer_fault_words :
    (Record.fault (.consumerRange 0x800000BE ⟨184, true⟩)).words = [0x05000004, 5, 0x800000BE, 0x800000B8] := by decide

/-- Chapter 3, lookups over the list. -/
theorem test_lookup_before_first : lookup 999 list4 = .noEntry := by decide

theorem test_lookup_in_dissolve : lookup 1131 list4 = .dissolve (entry 1 1120 24) false (entry 5 1100 0) 12 := by decide

theorem test_lookup_past_dissolve : lookup 1144 list4 = .covered (entry 1 1120 24) false := by decide

/-- Chapter 3, building a short list: slot 5 at 1,100 loses to slot 1. -/
theorem test_dup_start :
    (GradeList.commit { GradeList.reset with ordered := [entry 0 1000 0, entry 1 1100 24] } false 5 true
      (entry 5 1100 0).fields).2 = some (.dupStart 5 1) := by decide

/-- Chapter 3, a captured commit during the reload: slot 40 displaces slot 90. -/
theorem test_reload_displaces :
    (GradeList.commit { GradeList.reset with ordered := [entry 90 2000 0] } true 40 true (entry 40 2000 0).fields).2 =
      some (.dupStart 90 40) := by decide

/-- Chapter 6, one pixel through one lane. -/
theorem test_pixel :
    gradeStages
      { lift := ⟨-10, 0, 12⟩, gain := ⟨1024, 1126, 980⟩
        curve := ⟨none, some #v[0, 60, 120, 180, 240, 300, 360, 450, 540, 600, 660, 720, 780, 840, 900, 960, 1023], none⟩
        saturation := 300 }
      (profileStage ⟨false, ⟨64, 64, 64⟩, ⟨1100, 1100, 1100⟩⟩ ⟨600, 500, 400⟩) = ⟨572, 545, 327⟩ := by decide

/-- Chapter 6, the same pixel in a dissolve. -/
theorem test_mixed_pixel : mixStage 128 ⟨572, 545, 327⟩ ⟨400, 420, 500⟩ = ⟨486, 483, 414⟩ := by decide

/-- Chapter 6, a negative pixel at the clamps. -/
theorem test_negative_pixel :
    legalClamp { Setup.reset.frame with legalEnable := true }
      (gradeStages { lift := ⟨0, -20, 40⟩, gain := ⟨1100, 1024, 900⟩, curve := ⟨none, none, none⟩, saturation := 480 }
        (profileStage ⟨true, ⟨100, 250, 380⟩, ⟨3000, 3200, 3600⟩⟩ ⟨900, 700, 650⟩)) = ⟨64, 261, 64⟩ := by decide

/-- R117: a linear curve is one code low from 993 on. -/
theorem test_linear_curve :
    curveChannel (some #v[0, 64, 128, 192, 256, 320, 384, 448, 512, 576, 640, 704, 768, 832, 896, 960, 1023]) 993 = 992 := by
  decide

/-- R129's table. -/
theorem test_mix_factors :
    mixFactor 1 32768 = 128 ∧ mixFactor 12 2621 = 123 ∧ mixFactor 24 2621 = 246 ∧ mixFactor 5 5957 = 116
      ∧ mixFactor 255 256 = 255 := by decide

/-- Chapter 5, bars at an uneven width. -/
theorem test_bars :
    barsValue Setup.reset.frame 1366 170 = ⟨721, 721, 721⟩ ∧ barsValue Setup.reset.frame 1366 171 = ⟨721, 721, 64⟩
      ∧ barsValue Setup.reset.frame 1366 683 = ⟨721, 64, 721⟩ ∧ barsValue Setup.reset.frame 1366 1365 = ⟨64, 64, 64⟩ := by
  decide

/-- R152's table. -/
theorem test_means :
    cellMean 3131 2680000 = 500 ∧ cellMean 3131 4823999 = 900 ∧ cellMean 3131 5500000 = 1023 := by decide

/-- Chapter 7, four clients' worth of requests: the count of 1,920 × 1,200 is 6,000. -/
theorem test_recip_request :
    (requestRecip (base.withSetup { base.setup with width := 1920, height := 1200 })).divider.inProgress =
      some { client := .recip, request := { dividend := 16783215, divisor := 6000, stopped := false } } := by decide

/-- Chapter 2, the edge at 131,251: frame 1,001, and a SPEED request with divisor 41,668. -/
theorem test_edge :
    ∃ t, exec (.perfEdge .forward) running = .next t ∧ t.footage.number = 1001 ∧ t.footage.phase = 0
      ∧ t.divider.inProgress =
          some { client := .speed, request := { dividend := 100000000, divisor := 41668, stopped := false } } :=
  ⟨_, rfl, by decide⟩

/-- Chapter 2: the SPEED result is 2,399. -/
theorem test_speed :
    ∃ t, exec .divisionComplete
        (running.withDivider { Divider.reset with
          inProgress := some { client := .speed, request := { dividend := 100000000, divisor := 41668, stopped := false } } })
          = .next t ∧ t.footage.speed = some 2399 := ⟨_, rfl, by decide⟩

/-- Chapter 10, a record across the top: the CUT's words go to 255 and then 0 to 2, and the head to 3/1. -/
theorem test_ring_wrap :
    reportCells .recordWords (ringed [cutRecord]) = [(0x01053FC, 0x02000004)]
      ∧ (reportCells .recordWrapped (ringed [cutRecord])).map (·.1) = [0x0105000, 0x0105004, 0x0105008]
      ∧ reportCells .recordHead (ringed [cutRecord]) = [(0xC, 0x80000003)] := by decide

/-- Chapter 10: 3/1 is accepted and 10/1 is refused with head 3/1 and consumer 200/0. -/
theorem test_consumer :
    consumerAccepted ⟨3, true⟩ (base.withRing { base.ring with head := ⟨3, true⟩, consumer := ⟨200, false⟩ }) = true
      ∧ consumerAccepted ⟨10, true⟩ (base.withRing { base.ring with head := ⟨3, true⟩, consumer := ⟨200, false⟩ }) = false := by
  decide

/-- Chapter 1, one burst across two windows: the fourth word is partial. -/
theorem test_burst_across_windows :
    ∃ t, exec (.passedTransaction
        { master := .control, address := 0x0101FF8
          body := .write [⟨1, 15⟩, ⟨2, 15⟩, ⟨0x80000000, 15⟩, ⟨4, 14⟩] }) base = .next t
      ∧ t.ring.queue = [.fault (.partialSnoop 0x0102004)]
      ∧ t.tables.slots[511] = { staged := #v[0, 1, 2], committed := none }
      ∧ t.tables.records[0].committed = some ⟨0x80000000, #v[0, 0, 0, 0, 0, 0, 0]⟩ := ⟨_, rfl, by decide +kernel⟩

/-! ## Witnesses

Each theorem names a state and operands that meet the hypotheses of the statement it is named after, with a value at the
boundary of each clause. -/

def standby : State := base.withPartState .standby
def unset : State := base.withPartState .unset
def loading : State := { base with partState := .loading, reload := ⟨⟨true, 510⟩, ⟨false, 0⟩, ⟨false, 0⟩, ⟨false, 0⟩⟩ }

/-- The premises of the statements about one setup word: PpfChangeClearsThePhase, UnnamedCodeRaisesAFault,
FramePresetSetsTheCounter, ReadProfileReportsOrIsRefused, FrameSetupWordsTakeTheirFields,
ImmediateSetupWordsTakeTheirFields, ControlWordMovesThePart. -/
theorem witness_open_and_taken :
    (PortOpen base ∧ SetupTaken base) ∧ (PortOpen standby ∧ SetupTaken standby) ∧ (PortOpen loading ∧ SetupTaken loading)
      ∧ PortOpen unset ∧ unset.partState = .unset := by
  unfold PortOpen SetupTaken
  decide

theorem witness_StepRunsFrontCommand : (base.withPending [.recordSelect]).pending = [.recordSelect] := rfl

theorem witness_IdleStepIsOneMicrosecond :
    State.held.pending = [] ∧ State.held.resetAsserted = true ∧ running.pending = [] ∧ running.resetAsserted = false
      ∧ NothingDue running := by
  unfold NothingDue
  decide

theorem witness_WellFormedCommandsComplete :
    (Instr.partialWrite .aux 0xFFFFFF 0 14).wellFormed = true
      ∧ Transaction.wellFormed { master := .control, address := 0, body := .write [] } = false := by decide

theorem witness_PassedTransactionsPass :
    PortOpen base ∧ BurstPasses .control 0x3FFFFFC [⟨1, 15⟩, ⟨2, 3⟩] base ∧ BurstPasses .output 0x0800000 [⟨1, 15⟩] base :=
  ⟨And.intro rfl rfl,
    ⟨.inr (.inl (by decide)), .inl (by decide), trivial⟩,
    ⟨.inr (.inr (.inr (.inr ⟨0, 0, by decide, .inl (by decide)⟩))), trivial⟩⟩

theorem witness_ControlWritesReachMemory :
    Master.aux ≠ .scan ∧ base.port.inProgress = none ∧ 0x3FFFFFC % 4 = 0 ∧ 0x3FFFFFC < Config.storeBytes
      ∧ StoreCanonical base := ⟨by decide, rfl, by decide, by decide, And.intro .nil (by intro c h; cases h)⟩

theorem witness_BusCommandsWaitOrPassUnderReset :
    (Instr.recordCommit .control 255 0).wellFormed = true
      ∧ (busTransaction State.held (.recordCommit .control 255 0)).isSome = true ∧ State.held.resetAsserted = true
      ∧ State.held.port.inProgress = none
      ∧ (withAccess (.reload (.setup 0) false) base).port.inProgress ≠ none := by decide

theorem witness_ResetHoldsEveryBlock :
    (∃ op, programming.profiles.operation = some op ∧ op.number ≠ 6) ∧ base.port.waiting = []
      ∧ (withAccess (.report .publication [(0xC, 0)] false) base).port.inProgress =
          some (.report .publication [(0xC, 0)] false) := ⟨⟨_, rfl, by decide⟩, rfl, rfl⟩

theorem witness_ReleaseRequestsTheSetupRead : State.held.resetAsserted = true ∧ base.resetAsserted = false := by decide

/-- The last setup read, with revision 1 and with another in word 0, and the first. -/
theorem witness_SetupReadInstallsItsWords :
    (∀ q : Fin 4, (withWaiting (withAccess (.reload (.setup q) false) unset)).port.inProgress = some (.reload (.setup q) false)
      ∧ (withWaiting unset).port.waiting ≠ [] ∧ (withWaiting unset).port.reloadRequest = none)
      ∧ revisionOf (0 : Word) ≠ 1 ∧ revisionOf (0x01000000 : Word) = 1 := by
  refine ⟨fun q => ⟨rfl, by decide, rfl⟩, by decide, by decide⟩

theorem witness_RevisionOneLeavesUnset :
    PortOpen unset ∧ unset.partState = .unset ∧ unset.port.reloadRequest = none ∧ revisionOf (0x01FFFFFF : Word) = 1
      ∧ revisionOf (0x00FFFFFF : Word) ≠ 1 ∧ revisionOf (0x02000000 : Word) ≠ 1
      ∧ PortOpen State.reset ∧ State.reset.partState = .unset ∧ setupReadOutstanding State.reset.port = true := by
  unfold PortOpen
  decide

theorem witness_OtherRevisionEntersUnset :
    PortOpen opened ∧ SetupTaken opened ∧ revisionOf (0 : Word) ≠ 1 ∧ revisionOf (0xFF000000 : Word) ≠ 1 := by
  unfold PortOpen SetupTaken
  decide

/-- The head itself is the last value accepted; one word on, and an offset of the ring size, are refused. -/
theorem witness_ConsumerIndexAcceptedOrRefused :
    (PortOpen unset ∧ unset.partState = .unset) ∧ PortOpen (ringed []) ∧ SetupTaken (ringed [])
      ∧ ringDistance 256 ⟨200, false⟩ ⟨255, false⟩ = usedWords (ringed [])
      ∧ ringDistance 256 ⟨200, false⟩ ⟨0, true⟩ = usedWords (ringed []) + 1 := by
  unfold PortOpen SetupTaken
  decide

theorem witness_RestartWordRestarts :
    PortOpen opened ∧ SetupTaken opened
      ∧ { opened.setup with
          width := max 96 (min 2048 ((0x00000000 : Word).extractLsb' 0 12).toNat)
          height := max 64 (min 1600 ((0x00000000 : Word).extractLsb' 16 11).toNat) } = opened.setup
      ∧ { opened.setup with
          bufferBase := opened.setup.bufferBase.set 3 (4 * ((0x03FFFFFF : Word).extractLsb' 2 24).toNat) } ≠ opened.setup := by
  unfold PortOpen SetupTaken
  decide

/-- `loading` with a read waiting at the arbiter. -/
def loadingWith (ref : ItemRef) (part : ItemPart) (r : PerTable TableProgress) : State :=
  ({ loading with reload := r }).withPort { loading.port with reloadRequest := some (.item ref part) }

/-- An idle reload engine; a waiting read of slot 510 that a retarget of RECORDS leaves and one of GRADE_LIST replaces; and a
waiting read of record 3, first or second, at a retarget of GRADE_LIST. -/
theorem witness_RetargetRestartsItsTable :
    PortOpen opened ∧ SetupTaken opened ∧ ReloadIdle opened
      ∧ { opened.setup with tableBase := opened.setup.tableBase.set .windows (4 * ((0x0104803 : Word).extractLsb' 2 24).toNat) }
          = opened.setup
      ∧ { opened.setup with tableBase := opened.setup.tableBase.set .windows (4 * ((0x3FFFFFC : Word).extractLsb' 2 24).toNat) }
          ≠ opened.setup
      ∧ (∀ (ref : ItemRef) (part : ItemPart) (r : PerTable TableProgress),
          PortOpen (loadingWith ref part r) ∧ SetupTaken (loadingWith ref part r)
            ∧ (loadingWith ref part r).port.reloadRequest = some (.item ref part))
      ∧ [TableId.gradeList, .records, .curves, .windows] = [] ++ .gradeList :: [.records, .curves, .windows]
      ∧ [TableId.gradeList, .records, .curves, .windows] = [.gradeList, .records, .curves] ++ .windows :: []
      ∧ ((loading.reload.set .records { pending := true, next := 0 }).get .gradeList).pending = true
      ∧ (∀ q ∈ [TableId.gradeList, .records, .curves],
          (State.held.reload.set .windows { pending := true, next := 0 } |>.get q).pending = false)
      ∧ itemAddress base.setup (itemAt .gradeList 510) 1 < Config.storeBytes
      ∧ itemAddress { base.setup with tableBase := base.setup.tableBase.set .windows 0x3FFFFF8 } (itemAt .windows 0) 1
          < Config.storeBytes :=
  ⟨And.intro rfl rfl, by unfold SetupTaken; decide, And.intro (by intro t; cases t <;> rfl) rfl, by decide, by decide,
    fun _ _ _ => ⟨And.intro rfl rfl, (by unfold SetupTaken loadingWith loading State.withPort; simp), rfl⟩,
    rfl, rfl, rfl, by decide, by decide, by decide⟩

theorem witness_RingWordResetsTheRing :
    PortOpen (ringed []) ∧ SetupTaken (ringed [])
      ∧ { base.setup with ringSize := max 256 (min 16384 ((255 : Word).extractLsb' 0 15).toNat) } = base.setup
      ∧ { base.setup with ringSize := max 256 (min 16384 ((257 : Word).extractLsb' 0 15).toNat) } ≠ base.setup := by
  unfold PortOpen SetupTaken
  decide

theorem witness_LegalWordTakenWholeOrRefused :
    PortOpen base ∧ SetupTaken base
      ∧ ((0x03FF03FF : Word).extractLsb' 16 10).toNat ≤ ((0x03FF03FF : Word).extractLsb' 0 10).toNat
      ∧ ((0x03FF03FE : Word).extractLsb' 0 10).toNat < ((0x03FF03FE : Word).extractLsb' 16 10).toNat := by
  unfold PortOpen SetupTaken
  decide

theorem witness_ReloadAllStartsOver :
    PortOpen opened ∧ SetupTaken opened ∧ setupReadOutstanding opened.port = false
      ∧ WordAddress opened.setup.tableBase.gradeList := by
  unfold PortOpen SetupTaken WordAddress
  decide

def enabled (s : State) : State := s.withSetup { s.setup with programEnable := true }

/-- One state for each reason of a refusal, and one that accepts. -/
theorem witness_ProgramProfileStartsOrIsRefused :
    (PortOpen unset ∧ unset.partState = .unset) ∧ (PortOpen base ∧ base.setup.programEnable = false)
      ∧ (PortOpen (enabled opened) ∧ opened.tracker.openFrame ≠ none)
      ∧ (PortOpen (enabled running) ∧ running.tracker.openFrame = none ∧ running.footage.transport = .running)
      ∧ (PortOpen (enabled programming) ∧ programming.footage.transport = .stopped ∧ programming.profiles.operation ≠ none)
      ∧ (PortOpen (enabled base) ∧ SetupTaken (enabled base) ∧ (enabled base).setup.programEnable = true
          ∧ base.tracker.openFrame = none ∧ base.footage.transport = .stopped ∧ base.profiles.operation = none)
      ∧ (31 : Fin 32).val = (⟨31, 0⟩ : CommandArgs).profile.toNat := by
  unfold PortOpen SetupTaken
  decide

theorem witness_TakenSetupHoldsEveryField (sh : Vector Word 64) :
    ∃ (fld : Nat → Nat → Nat → Nat) (b : Nat → Nat),
      (∀ k lo len, fld k lo len = ((sh[k]?.getD 0).extractLsb' lo len).toNat) ∧ ∀ k, b k = 4 * fld k 2 24 :=
  ⟨_, _, fun _ _ _ => rfl, fun _ => rfl⟩

/-- Windows, their first and last words, and what lies beside them. -/
theorem witness_PartialWordRaisesAFault :
    PortOpen base ∧ (14 : ByteLanes) ≠ 15 ∧ classify base 0xFC = .setup 63 ∧ classify base 0xC = .setup 3
      ∧ classify base 0x0100000 = .table (.slot 0) 0 ∧ classify base 0x0101FFC = .table (.slot 511) 3
      ∧ classify base 0x0104040 = .table (.curve 0) 16 ∧ classify base 0x0104044 = .plain
      ∧ classify base 0x01053FC = .ring ∧ classify base 0x0105400 = .plain
      ∧ classify base 0x0805FFC = .buffer 0 6143 := by
  unfold PortOpen
  decide

theorem witness_TableWordsStageAndCommit :
    PortOpen base ∧ ReachesItem (.slot 511) 3 base ∧ ReachesItem (.record 255) 7 base ∧ ReachesItem (.curve 15) 16 base
      ∧ ReachesItem (.window 15) 3 base ∧ ReachesItem (.record 255) 0 base ∧ ReachesItem (.curve 15) 0 base
      ∧ ReachesItem (.window 15) 0 base := by
  unfold PortOpen ReachesItem
  decide

/-- The part with the list of chapter 3. -/
def listed : State :=
  base.withGradeList
    { status := ((((GradeList.reset.status.set 0 .listed).set 5 .listed).set 1 .listed).set 2 .listed), ordered := list4 }

theorem listed_sound : OrderedListSound listed := by
  refine ⟨by decide, by decide, by decide, fun i => ?_⟩
  simp only [listed, list4, entry, GradeList.reset, State.withGradeList, Vector.getElem_set, Vector.getElem_replicate,
    List.mem_cons, List.not_mem_nil, or_false, exists_eq_or_imp, exists_eq_left, Fin.ext_iff]
  split_ifs <;> simp_all

/-- Valid 0; a start frame past either end of the range; one that is held; and the greatest one, which is free. -/
theorem witness_SlotCommitPlacesTheSlot :
    PortOpen listed ∧ ReachesItem (.slot 2) 0 listed ∧ OrderedListSound listed
      ∧ (0x00000000 : Word).getLsbD 31 = false
      ∧ ((0x800F4240 : Word).extractLsb' 0 24).toInt = 1000000 ∧ ((0x80FFFFFF : Word).extractLsb' 0 24).toInt = -1
      ∧ ((0x80000460 : Word).extractLsb' 0 24).toInt = 1120 ∧ ((0x800F423F : Word).extractLsb' 0 24).toInt = 999999 :=
  ⟨And.intro rfl rfl, by unfold ReachesItem; decide, listed_sound, by decide, by decide, by decide, by decide, by decide⟩

/-- The grade-list table in the last word of the store: word 0 of slot 0 lies in it, its other words and slot 1 do not. -/
def atTop : State :=
  loading.withSetup { loading.setup with tableBase := loading.setup.tableBase.set .gradeList 0x3FFFFFC }

/-- A read with a transaction waiting behind it, of an item in the store and of one that is past it. -/
theorem witness_FirstReadStagesTheItem :
    (withWaiting (withAccess (.reload (.item (.curve 15) .rest) false) loading)).port.inProgress =
        some (.reload (.item (.curve 15) .rest) false)
      ∧ (withWaiting loading).port.waiting ≠ [] ∧ inStore (itemAddress loading.setup (.curve 15) 0) = true
      ∧ (withAccess (.reload (.item (.slot 1) .rest) false) atTop).port.inProgress =
          some (.reload (.item (.slot 1) .rest) false)
      ∧ inStore (itemAddress atTop.setup (.slot 0) 0) = true ∧ inStore (itemAddress atTop.setup (.slot 1) 0) = false :=
  ⟨rfl, by decide, by decide, rfl, by decide, by decide⟩

/-- Slot 510 with slot 511 to follow; slot 511 with record 0 to follow; record 9 interrupted by slot 0; window 15 as the last
item of the last table; and a following item whose word 1 is the first word past the store. -/
theorem witness_SecondReadCommitsTheItem :
    (withWaiting (withAccess (.reload (.item (.slot 510) .word0) false) loading)).port.inProgress =
        some (.reload (.item (.slot 510) .word0) false)
      ∧ (withWaiting loading).port.waiting ≠ [] ∧ (withWaiting loading).port.reloadRequest = none
      ∧ loading.partState = .loading
      ∧ firstPending (loading.reload.set .gradeList { pending := decide ((ItemRef.slot 510).index + 1 < 512), next := 511 }) =
          some (.slot 511)
      ∧ itemAddress loading.setup (.slot 511) 1 < Config.storeBytes
      ∧ firstPending ((⟨⟨true, 511⟩, ⟨true, 0⟩, ⟨false, 0⟩, ⟨true, 0⟩⟩ : PerTable TableProgress).set .gradeList
            { pending := decide ((ItemRef.slot 511).index + 1 < 512), next := 512 }) = some (.record 0)
      ∧ firstPending ((⟨⟨true, 0⟩, ⟨true, 9⟩, ⟨false, 0⟩, ⟨true, 0⟩⟩ : PerTable TableProgress).set .records
            { pending := decide ((ItemRef.record 9).index + 1 < 256), next := 10 }) = some (.slot 0)
      ∧ firstPending ((⟨⟨false, 0⟩, ⟨false, 0⟩, ⟨false, 0⟩, ⟨true, 15⟩⟩ : PerTable TableProgress).set .windows
            { pending := decide ((ItemRef.window 15).index + 1 < 16), next := 16 }) = none
      ∧ itemAddress atTop.setup (.slot 0) 1 = Config.storeBytes
      ∧ (∃ f : SlotFields, ∀ (i : Fin 512) (st : Vector Word 3), ItemRef.slot 510 = .slot i →
          st = loading.tables.slots[i.val].staged → f = Committed.slotFields ⟨0x80000BE0, st⟩)
      ∧ ∀ q, (State.held.reload.get q).pending = false := by
  refine ⟨rfl, by decide, rfl, rfl, by decide, by decide, by decide, by decide, by decide, by decide,
    ⟨Committed.slotFields ⟨0x80000BE0, loading.tables.slots[510].staged⟩, ?_⟩, ?_⟩
  · rintro i st h rfl
    obtain rfl := ItemRef.slot.inj h
    rfl
  · intro q
    cases q <;> rfl

/-- A table pending, with its next item in the store or past it; and none, in UNSET. -/
theorem witness_DiscardedReadInstallsNothing :
    (∀ s : State, (withWaiting (withAccess (.reload (.item (.slot 3) .rest) true) s)).port.inProgress =
        some (.reload (.item (.slot 3) .rest) true))
      ∧ (withWaiting loading).port.waiting ≠ [] ∧ (withWaiting loading).port.reloadRequest = none
      ∧ firstPending loading.reload = some (.slot 510) ∧ partInStore loading.setup (.slot 510) .rest = true
      ∧ partInStore atTop.setup (.slot 510) .rest = false
      ∧ firstPending unset.reload = none ∧ (withWaiting unset).port.reloadRequest = none :=
  ⟨fun _ => rfl, by decide, by decide, by decide, by decide, by decide, by decide, by decide⟩

/-- The displaced holder stands above the committing slot, or below it; a start frame that none holds; and the first start
frame past either end of the range. -/
theorem witness_ReloadCommitKeepsTheLowestSlot :
    [entry 90 2000 0].Pairwise (fun a b => a.fields.start < b.fields.start)
      ∧ entry 90 2000 0 ∈ [entry 90 2000 0].filter (fun e => decide (e.slot ≠ 89))
      ∧ entry 90 2000 0 ∈ [entry 90 2000 0].filter (fun e => decide (e.slot ≠ 91))
      ∧ (89 : Fin 512).val < (90 : Fin 512).val ∧ (90 : Fin 512).val < (91 : Fin 512).val
      ∧ (∀ h ∈ [entry 90 2000 0].filter (fun e => decide (e.slot ≠ 89)), h.fields.start ≠ (entry 89 999999 0).fields.start)
      ∧ ¬ (0 ≤ (entry 89 1000000 0).fields.start ∧ (entry 89 1000000 0).fields.start ≤ 999999)
      ∧ ¬ (0 ≤ (entry 89 (-1) 0).fields.start ∧ (entry 89 (-1) 0).fields.start ≤ 999999) := by decide

theorem witness_ArbiterIssuesReloadBeforeReport :
    State.reset.port.inProgress = none ∧ State.reset.port.waiting = []
      ∧ State.reset.port.reloadRequest = some (.setup 0) ∧ base.port.reloadRequest = none
      ∧ (requestReport .publication base).port.reportRequest = some .publication
      ∧ base.port.reportRequest = none
      ∧ (withAccess (.reload (.setup 0) false) base).port.inProgress ≠ none := by decide

/-- Offset 1 with no frame open; offset 1 of another buffer than the open one's; outside ACTIVE; and in no buffer. -/
theorem witness_OrphanWordsPassAndCount :
    PortOpen base ∧ classify base (4 * (0x200001 : BitVec 24).toNat) = .buffer 0 1 ∧ base.tracker.openFrame = none
      ∧ PortOpen opened ∧ classify opened (4 * (0x400001 : BitVec 24).toNat) = .buffer 1 1 ∧ frame0.buffer ≠ 1
      ∧ classify standby (4 * (0x200000 : BitVec 24).toNat) = .buffer 0 0 ∧ standby.partState ≠ .active
      ∧ classify base (4 * (0x041400 : BitVec 24).toNat) = .ring ∧ classify unset (4 * (0x200000 : BitVec 24).toNat) = .plain := by
  unfold PortOpen
  decide

/-- The word after the first, and the last word of the picture; and a column that a width of 100 leaves outside the cells. -/
theorem witness_OpenFrameWordsAreGraded :
    PortOpen opened ∧ opened.partState = .active ∧ opened.tracker.openFrame = some frame0
      ∧ classify opened (4 * (0x200001 : BitVec 24).toNat) = .buffer 0 1
      ∧ classify opened (4 * (0x2017FF : BitVec 24).toNat) = .buffer 0 6143
      ∧ 6143 + 1 = opened.setup.width * opened.setup.height
      ∧ 95 < 24 * (opened.setup.width / 24) ∧ ¬ 96 < 24 * (100 / 24) := by
  unfold PortOpen
  decide

/-- With and without a frame open before; lookups without an entry, outside a dissolve, at its first frame and inside one; and
a step cached for the dissolve's length, and for another. -/
theorem witness_OffsetZeroOpensAFrame :
    PortOpen opened ∧ opened.partState = .active ∧ classify opened (4 * (0x200000 : BitVec 24).toNat) = .buffer 0 0
      ∧ classify opened (4 * (0x800000 : BitVec 24).toNat) = .buffer 3 0 ∧ base.tracker.openFrame = none
      ∧ lookup (max (-99999) (min 999999 (opened.footage.number + opened.setup.gateOffset))) opened.gradeList.ordered = .noEntry
      ∧ lookup 1119 listed.gradeList.ordered = .covered (entry 5 1100 0) false
      ∧ lookup 1120 listed.gradeList.ordered = .dissolve (entry 1 1120 24) true (entry 5 1100 0) 1
      ∧ lookup 1143 listed.gradeList.ordered = .dissolve (entry 1 1120 24) false (entry 5 1100 0) 24
      ∧ (∃ q, (some ⟨24, 2621⟩ : Option StepPair) = some q ∧ q.length = (entry 1 1120 24).fields.dissolve)
      ∧ (⟨25, 2520⟩ : StepPair).length ≠ (entry 1 1120 24).fields.dissolve := by
  unfold PortOpen
  refine ⟨by decide, by decide, by decide, by decide, by decide, by decide, by decide, by decide, by decide, ⟨_, rfl, rfl⟩,
    by decide⟩

theorem witness_CloseStagesTheSummary : opened.tracker.openFrame = some frame0 ∧ base.tracker.openFrame = none := ⟨rfl, rfl⟩

/-- A frame that meets every condition of R154, against a reference of the frame before; the means are those of its sums. -/
theorem witness_CloseJudgesTheFrame :
    frame0.setup.scdEnable = true ∧ frame0.substitution = .none ∧ frame0.transport = .running
      ∧ frame0.direction = .forward ∧ frame0.speed ≠ 0 ∧ frame0.setup.speedLo ≤ frame0.speed
      ∧ frame0.speed ≤ frame0.setup.speedHi ∧ frame0.lookup.inEntry = none
      ∧ ({ means := Vector.replicate 384 0, frame := 3043 } : Reference).frame = frame0.number - 1
      ∧ ∃ means : Vector Nat 384, ∀ i : Fin 384,
          means[i.val] = min (opened.detector.sums[i.val] * opened.detector.recip.getD 0 / 16777216) 1023 :=
  ⟨by decide, by decide, by decide, by decide, by decide, by decide, by decide, by decide, by decide,
    Vector.ofFn fun i : Fin 384 => min (opened.detector.sums[i.val] * opened.detector.recip.getD 0 / 16777216) 1023,
    fun i => by simp⟩

/-- Shadows whose record 5 is VALID and names curve 7 for red and curve 8 for green, and whose window 3 is VALID; curve 7 is
VALID, and curve 8 and window 4 are committed INVALID. -/
def latchable : Shadows :=
  { Shadows.reset with
    records := Shadows.reset.records.set 5
      { staged := Vector.replicate 7 0, committed := some ⟨0x80000100, #v[1024, 1024, 1024, 0x00008887, 0, 0, 0]⟩ }
    curves := (Shadows.reset.curves.set 7 { staged := Vector.replicate 16 0, committed := some ⟨0x80000000, Vector.replicate 16 5⟩ }).set
      8 { staged := Vector.replicate 16 0, committed := some ⟨0x00000000, Vector.replicate 16 5⟩ }
    windows := (Shadows.reset.windows.set 3 { staged := Vector.replicate 3 0, committed := some ⟨0x80000000, #v[0, 95, 63]⟩ }).set
      4 { staged := Vector.replicate 3 0, committed := some ⟨0x00000000, #v[0, 95, 63]⟩ } }

/-- An uncommitted record and a VALID one that names a VALID curve, one that is not VALID and, for blue, none; an uncommitted
window, an INVALID one and a VALID one. -/
theorem witness_LanesLatchLoadOrSubstitute :
    latchable.records[6].committed = none
      ∧ (∃ c, latchable.records[5].committed = some c ∧ c.first.getLsbD 31 = true ∧ c.rest[3].getLsbD 7 = true
          ∧ (c.rest[3].extractLsb' 0 4).toNat = 7 ∧ c.rest[3].getLsbD 15 = true ∧ (c.rest[3].extractLsb' 8 4).toNat = 8
          ∧ c.rest[3].getLsbD 23 = false)
      ∧ (∃ k, latchable.curves[7].committed = some k ∧ k.first.getLsbD 31 = true)
      ∧ (∃ k, latchable.curves[8].committed = some k ∧ k.first.getLsbD 31 = false)
      ∧ latchable.windows[5].committed = none
      ∧ (∃ c, latchable.windows[4].committed = some c ∧ c.first.getLsbD 31 = false)
      ∧ (∃ c, latchable.windows[3].committed = some c ∧ c.first.getLsbD 31 = true) :=
  ⟨by decide, ⟨_, rfl, by decide⟩, ⟨_, rfl, by decide⟩, ⟨_, rfl, by decide⟩, by decide, ⟨_, rfl, by decide⟩, ⟨_, rfl, by decide⟩⟩

/-- 199 µs after the last accepted edge is a glitch at guard 200, and 200 µs after it is not. -/
theorem witness_GuardedEdgesAreGlitches :
    State.held.resetAsserted = true ∧ running.resetAsserted = false ∧ running.footage.transport = .running
      ∧ running.footage.lastEdge = some 120834 ∧ ((121033 : BitVec 20) - 120834).toNat < running.setup.perfGuard := by decide

theorem witness_AcceptedEdgesCount :
    base.resetAsserted = false ∧ base.footage.transport = .stopped ∧ base.footage.lastEdge = none
      ∧ running.setup.perfGuard ≤ ((121034 : BitVec 20) - 120834).toNat := by decide

/-- `running` with a CUE pulse of 1,000 µs that began at 131,000. -/
def cued (clock : BitVec 20) : State :=
  running.withFootage { running.footage with clock := clock, cue := some { start := 131000, width := 1000 } }

/-- Each time-out at its last µs before and its first µs due. -/
theorem witness_TimeOutsTakeEffectWhenDue :
    running.footage.transport = .running ∧ running.footage.lastEdge = some 120834
      ∧ running.setup.stopLimit = ((170834 : BitVec 20) - 120834).toNat
      ∧ ((170833 : BitVec 20) - 120834).toNat < running.setup.stopLimit ∧ base.footage.transport = .stopped
      ∧ (∃ c, (cued 132000).footage.cue = some c ∧ c.width ≤ ((cued 132000).footage.clock - c.start).toNat)
      ∧ (∃ c, (cued 131999).footage.cue = some c ∧ ((cued 131999).footage.clock - c.start).toNat < c.width)
      ∧ base.footage.cue = none ∧ base.profiles.operation = none
      ∧ (∃ op, programming.profiles.operation = some op ∧ op.limit = ((5000 : BitVec 20) - op.acceptedAt).toNat
          ∧ ((4999 : BitVec 20) - op.acceptedAt).toNat < op.limit) :=
  ⟨rfl, rfl, by decide, by decide, rfl, ⟨_, rfl, by decide⟩, ⟨_, rfl, by decide⟩, rfl, rfl, _, rfl, by decide, by decide⟩

theorem witness_DivisionsServeTheirClients :
    (requestDivision .mix 65536 25 base).divider.inProgress = some ⟨.mix, ⟨65536, 25, false⟩⟩
      ∧ (requestDivision .recip 16783215 6000 base).divider.inProgress = some ⟨.recip, ⟨16783215, 6000, false⟩⟩
      ∧ (requestDivision .speed 100000000 41668 base).divider.inProgress = some ⟨.speed, ⟨100000000, 41668, false⟩⟩
      ∧ base.divider.inProgress = none
      ∧ (requestDivision .mix 65536 25 base).divider.inProgress ≠ none := by decide

theorem witness_ProgrammingWritesAndVerifies :
    ∃ op, programming.profiles.operation = some op ∧ op.phase = .writing
      ∧ programming.profiles.profiles[op.number.val].values ≠ op.values := ⟨_, rfl, rfl, by decide⟩

/-- The ring in the last 64 words of the store, its head at an offset past the store. -/
def highRing (head : Nat) : State :=
  ((ringed [cutRecord]).withSetup { base.setup with ringBase := 0x3FFFF00 }).withRing
    { base.ring with queue := [cutRecord], head := ⟨head, false⟩, consumer := ⟨100, false⟩ }

/-- The CUT record of 4 words with exactly 4 free words, and with 3; its first words in the store, past the store with words
at offset 0, and past the store whole; and a state for each condition of R188 that fails. -/
theorem witness_OldestRecordGoesInFlight :
    (ringed [cutRecord]).partState ≠ .unset ∧ (ringed [cutRecord]).ring.inFlight = false
      ∧ (ringed [cutRecord]).ring.publication = false ∧ (ringed [cutRecord]).port.reportRequest = none
      ∧ (ringed [cutRecord]).port.inProgress = none
      ∧ cutRecord.length = 256 - usedWords (base.withRing { base.ring with head := ⟨252, false⟩ })
      ∧ 256 - usedWords (base.withRing { base.ring with head := ⟨253, false⟩ }) < cutRecord.length
      ∧ base.setup.ringBase + 4 * 255 < Config.storeBytes
      ∧ (Config.storeBytes ≤ 0x3FFFF00 + 4 * 253 ∧ (highRing 253).setup.ringSize - 253 < cutRecord.length)
      ∧ (Config.storeBytes ≤ 0x3FFFF00 + 4 * 252 ∧ ¬ (highRing 252).setup.ringSize - 252 < cutRecord.length)
      ∧ (ringed []).ring.queue = [] ∧ unset.partState = .unset
      ∧ (base.withRing { base.ring with inFlight := true }).ring.inFlight = true
      ∧ (base.withRing { base.ring with publication := true }).ring.publication = true
      ∧ (requestReport .recordHead base).port.reportRequest ≠ none
      ∧ ∃ w cells d, (withAccess (.report .recordHead [] false) base).port.inProgress = some (.report w cells d) :=
  ⟨by decide, by decide, by decide, by decide, by decide, by decide, by decide, by decide, by decide, by decide, by decide,
    by decide, by decide, by decide, by decide, _, _, _, rfl⟩

theorem witness_ReportWritesFollowInOrder :
    (∀ w d, (withWaiting (withAccess (.report w [] d) (ringed [cutRecord]))).port.inProgress = some (.report w [] d))
      ∧ (withWaiting (ringed [cutRecord])).port.waiting ≠ [] ∧ (ringed [cutRecord]).port.reportRequest = none
      ∧ (ringed [cutRecord]).ring.queue = [cutRecord]
      ∧ (⟨255, false⟩ : RingPointer).advance 256 cutRecord.length = ⟨3, true⟩ := ⟨fun _ _ => rfl, by decide, rfl, rfl, by decide⟩

theorem witness_RingWordsLieInRingOrder :
    (ringed []).ring.head.offset < (ringed []).setup.ringSize ∧ (ringed []).ring.consumer.offset < (ringed []).setup.ringSize
      ∧ usedWords (ringed []) + 201 = (ringed []).setup.ringSize ∧ cutRecord.length ≤ (ringed []).setup.ringSize
      ∧ (ringed []).setup.ringBase + 4 * (ringed []).setup.ringSize ≤ Config.storeBytes
      ∧ (⟨32767, true⟩ : RingPointer).offset < 32768
      ∧ (∃ slotAt : Option (Fin 512) → Nat → Nat → Nat, (∀ present lo, slotAt none present lo = 0)
          ∧ ∀ i present lo, slotAt (some i) present lo = 2 ^ present + 2 ^ lo * i.val) :=
  ⟨by decide, by decide, by decide, by decide, by decide, by decide,
    fun i present lo => (i.map fun n => 2 ^ present + 2 ^ lo * n.val).getD 0, fun _ _ => rfl, fun _ _ _ => rfl⟩

theorem witness_MixFactorRisesWithin255 : 256 = 65536 / (255 + 1) ∧ 32768 = 65536 / (1 + 1) := by decide

theorem witness_LookupFindsTheCoveringEntry :
    list4.Pairwise (fun a b => a.fields.start < b.fields.start)
      ∧ list4 = [entry 0 1000 0, entry 5 1100 0] ++ entry 1 1120 24 :: [entry 2 1180 0]
      ∧ (entry 1 1120 24).fields.start ≤ 1179 ∧ ∀ d ∈ [entry 2 1180 0], (1179 : Int) < d.fields.start := by decide

/-- The last curve segment; the first and the last column of the narrowest picture's first bar; a pixel inside and one
outside a window; and the greatest mix factor. -/
theorem witness_PipelineStagesAreExact :
    (15 : Int) = (1023 : Int).fdiv 64 ∧ (Vector.replicate 17 0 : Curve)[15 + 1]? = some 0
      ∧ ({ Setup.reset.frame with legalEnable := true }).legalLo ≤ Setup.reset.frame.legalHi
      ∧ Setup.reset.frame.legalHi ≤ 1023
      ∧ Setup.reset.frame.fill.r ≤ 1023 ∧ Setup.reset.frame.barLevel ≤ 1023 ∧ State.reset.mix.current ≤ 256
      ∧ (11 < base.setup.width ∧ 0 = 11 * 8 / base.setup.width) ∧ 1 = 12 * 8 / base.setup.width
      ∧ (∃ w, (latchWindow latchable (some 3) (some 5)).1 = some w
          ∧ (w.rect.left ≤ 94 ∧ 94 < w.rect.left + w.rect.width) ∧ ¬ 95 < w.rect.left + w.rect.width) :=
  ⟨by decide, by decide, by decide, by decide, by decide, by decide, by decide, by decide, by decide, _, rfl, by decide⟩

theorem witness_StepsKeepTheStore : (∃ t, step base = .next t) ∧ StoreCanonical base ∧ AddressesSound base := by
  refine ⟨⟨_, rfl⟩, And.intro .nil (by intro c h; cases h), ?_⟩
  unfold AddressesSound WordAddress
  refine ⟨(by intro c h; cases h), by decide, (by intro t; cases t <;> decide), by decide, (by intro t h; cases h), ?_⟩
  intro w cells d h
  simp [base, State.held, MemoryPort.reset] at h

theorem witness_StepsKeepTheOrderedList : (∃ t, step listed = .next t) ∧ OrderedListSound listed := ⟨⟨_, rfl⟩, listed_sound⟩

theorem witness_StepsKeepSetupAndFootageInRange :
    (∃ t, step running = .next t) ∧ SetupInRange running ∧ FootageInRange running ∧ RunningWithinStopLimit running := by
  refine ⟨⟨_, rfl⟩, ?_, ?_, fun _ => ⟨120834, rfl, by decide⟩⟩
  · unfold SetupInRange
    decide
  · unfold FootageInRange
    decide

/-- A part with a cached step, a frame that waits, and a MIX division. -/
def mixing : State :=
  { base with
    mix := { current := 256, cache := some ⟨10, 5957⟩, waiting := some ⟨24, 24⟩ }
    divider := { Divider.reset with inProgress := some ⟨.mix, ⟨65536, 25, false⟩⟩ } }

theorem witness_StepsKeepTheDivider :
    (∃ t, step mixing = .next t) ∧ SetupInRange mixing ∧ DivisorsNonzero mixing ∧ MixSound mixing ∧ RecipSound mixing := by
  refine ⟨⟨_, rfl⟩, ?_, ?_, ?_, ?_⟩
  · unfold SetupInRange
    decide
  · refine And.intro (by simp [mixing]) ?_
    intro c
    cases c <;> simp [mixing, Divider.slot, Divider.reset]
  · refine ⟨by decide, .inl rfl, by simp [mixing], by simp [mixing], ?_, by simp [mixing, MixRequest], by simp [mixing, Divider.reset]⟩
    intro e h
    cases h
  · unfold RecipSound
    simp [mixing, Divider.reset, base, State.held, Detector.reset]

/-- A record in flight with its words requested. -/
def inFlight : State := selectRecord (ringed [cutRecord])

theorem witness_StepsKeepTheRing :
    (∃ t, step (ringed [cutRecord]) = .next t) ∧ QueueBounded (ringed [cutRecord]) ∧ SetupInRange (ringed [cutRecord])
      ∧ RingSound (ringed [cutRecord]) ∧ AttnFollowsPointers { ringed [] with ring := { (ringed []).ring with attn := true } } := by
  refine ⟨⟨_, rfl⟩, ?_, ?_, ?_, ?_⟩
  · unfold QueueBounded
    decide
  · unfold SetupInRange
    decide
  · unfold RingSound
    refine ⟨by decide, by decide, by decide, (by intro h; cases h), (by intro w h; cases h), ?_, by decide⟩
    intro w cells h
    exact nomatch (show (none : Option OwnAccess) = some (.report w cells false) from h)
  · unfold AttnFollowsPointers
    decide

theorem witness_StepsKeepFramesCutsAndProfiles :
    (∃ t, step opened = .next t) ∧ OpenOnlyInActive opened ∧ RecentCutsSound opened
      ∧ ProgrammingSound (acceptProgram 7 (enabled base)) := by
  refine ⟨⟨_, rfl⟩, fun _ => rfl, ?_, ?_⟩
  · unfold RecentCutsSound
    decide
  · intro op h
    obtain rfl := Option.some.inj h
    decide

theorem witness_ResetIsKeptUntilRelease :
    HeldInReset State.held ∧ (∀ b, Instr.powerLoss ≠ .rstRelease b) ∧ ∃ t, exec .powerLoss State.held = .next t :=
  ⟨And.intro rfl (And.intro rfl (And.intro rfl rfl)), (by intro b h; cases h), _, rfl⟩

end Sys2Proof.Tests
end

section
/-! The setup values in use: which operations change them, and what every step keeps of them. -/

namespace Sys2Proof.Machine

/-- A word that is taken leaves the values in use as they were, or takes its own fields (R8). -/
theorem takeWord_setup (k : SetupWord) (w : Word) (s : State) :
    (takeWord k w s).setup = s.setup ∨ (takeWord k w s).setup = takeFields k w s.setup := by
  unfold takeWord takeLegalWord
  cases k <;> dsimp only
  case control => split <;> split <;> simp
  all_goals (repeat' split) <;> simp

theorem takeSetup_setup (s : State) : (takeSetup s).setup = takeShadow s.shadow s.setup := by
  unfold takeSetup
  dsimp only
  split <;> simp

/-- Taking a whole shadow is taking the fields of words one after another. -/
theorem takeShadow_keeps {Q : Setup → Prop} (fields : ∀ k w u, Q u → Q (takeFields k w u)) (sh : Vector Word 64)
    {u : Setup} (h : Q u) : Q (takeShadow sh u) := by
  unfold takeShadow
  generalize List.finRange 64 = ks
  induction ks generalizing u with
  | nil => exact h
  | cons k ks ih => exact ih (fields _ _ _ h)

/-- What the fields of every word keep, a captured setup word keeps. -/
theorem captureSetup_setup_keeps {Q : Setup → Prop} (fields : ∀ k w u, Q u → Q (takeFields k w u)) (k : Fin 64)
    (w : Word) (s : State) (h : Q s.setup) : Q (captureSetup k w s).setup := by
  have inUse : ∀ t : State, t.setup = s.setup → Q (captureInUse (setupWordAt k) w t).setup := by
    intro t ht
    unfold captureInUse
    split
    · simpa [ht] using h
    · rcases takeWord_setup (setupWordAt k) w t with e | e <;> rw [e, ht]
      · exact h
      · exact fields _ _ _ h
  unfold captureSetup
  split
  · exact h
  · dsimp only
    split
    · unfold captureInUnset
      split
      · rw [takeSetup_setup]
        exact takeShadow_keeps fields _ h
      · exact h
    all_goals exact inUse _ rfl

theorem completeSetupRead_setup_keeps {Q : Setup → Prop} (fields : ∀ k w u, Q u → Q (takeFields k w u)) (q : Fin 4)
    (s : State) (h : Q s.setup) : Q (completeSetupRead q s).setup := by
  unfold completeSetupRead
  dsimp only
  split
  · simpa using h
  · split
    · rw [takeSetup_setup]
      exact takeShadow_keeps fields _ (by simpa using h)
    · simpa using h

/-- What the fields of every word keep, and the reset values have, every step keeps of the setup values in use. -/
theorem step_keeps_setup {Q : Setup → Prop} (fields : ∀ k w u, Q u → Q (takeFields k w u)) (reset : Q Setup.reset)
    {s s' : State} (hs : step s = .next s') (h : Q s.setup) : Q s'.setup := by
  refine step_keeps (P := fun s => Q s.setup) ?pending (forwardWord_keeps ?pass ?fault ?setup ?table ?picture) ?returned
    ?waiting ?reset ?release ?setupRead ?tableRead ?report ?issue ?edge ?stop ?cue ?division ?cells ?verify ?timeOut
    ?select ?tick h hs
  case setup => exact fun k w s h => captureSetup_setup_keeps fields k w s h
  case setupRead => exact fun q _ s _ h => completeSetupRead_setup_keeps fields q (freePort s) h
  case reset => exact fun _ _ => reset
  case release => intro b s h; unfold releaseReset; split <;> exact h
  case tick => intro s h; unfold tick takeDueTimeouts; split <;> simpa using h
  all_goals intros; simpa

end Sys2Proof.Machine
end

section
/-! The ranges of the setup values, of the frame number and phase, and of the time since the last accepted edge: what
keeps them (R14, R15, R29, R34). -/

namespace Sys2Proof.Machine

/-! ## Setup values -/

/-- `SetupInRange`, of the setup values alone. -/
def Setup.InRange (u : Setup) : Prop :=
  (96 ≤ u.width ∧ u.width ≤ 2048) ∧ (64 ≤ u.height ∧ u.height ≤ 1600) ∧ (1 ≤ u.ppf ∧ u.ppf ≤ 4)
    ∧ (1000 ≤ u.stopLimit ∧ u.stopLimit ≤ 1000000) ∧ u.perfGuard ≤ 1000
    ∧ (1 ≤ u.frame.frameThreshold ∧ u.frame.frameThreshold ≤ 384)
    ∧ (256 ≤ u.ringSize ∧ u.ringSize ≤ 16384) ∧ (-8 ≤ u.gateOffset ∧ u.gateOffset ≤ 8)
    ∧ u.frame.legalLo ≤ u.frame.legalHi

theorem setupInRange_iff (s : State) : SetupInRange s ↔ s.setup.InRange := Iff.rfl

/-- R14, R15: every word's fields are clamped, and a legal word with lo above hi is not taken. -/
theorem takeFields_inRange (k : SetupWord) (w : Word) (u : Setup) (h : u.InRange) : (takeFields k w u).InRange := by
  unfold Setup.InRange at h ⊢
  cases k <;> simp only [takeFields, clampNat, clampInt]
  case legal =>
    split
    · exact h
    · next hl =>
      simp only [legalRefused, decide_eq_true_eq] at hl
      simp only
      omega
  case geometry | ringSize | footage | stopLimit | scanEnables | thresholds =>
    refine ⟨?_, ?_, ?_, ?_, ?_, ?_, ?_, ?_, ?_⟩ <;> omega
  all_goals exact h

theorem step_keeps_setupInRange {s s' : State} (hs : step s = .next s') (h : SetupInRange s) : SetupInRange s' :=
  step_keeps_setup takeFields_inRange (by unfold Setup.InRange; decide) hs h

theorem resetBlocks_setupInRange (s : State) : SetupInRange (resetBlocks s) := by
  change Setup.reset.InRange
  unfold Setup.InRange
  decide

/-! ## What leaves the footage counter alone -/

/-- Two states of the FTC with one frame number, phase, transport, counter value and last edge. -/
structure Footage.SameCounter (f g : Footage) : Prop where
  number : g.number = f.number
  phase : g.phase = f.phase
  transport : g.transport = f.transport
  clock : g.clock = f.clock
  lastEdge : g.lastEdge = f.lastEdge

theorem Footage.SameCounter.refl (f : Footage) : f.SameCounter f := ⟨rfl, rfl, rfl, rfl, rfl⟩

theorem Footage.SameCounter.trans {f g h : Footage} (a : f.SameCounter g) (b : g.SameCounter h) : f.SameCounter h :=
  ⟨b.number.trans a.number, b.phase.trans a.phase, b.transport.trans a.transport, b.clock.trans a.clock,
    b.lastEdge.trans a.lastEdge⟩

theorem sameCounter_of_eq {f g : Footage} (h : g = f) : f.SameCounter g := h ▸ .refl f

theorem closeFrame_sameCounter (complete : Bool) (s : State) :
    s.footage.SameCounter (closeFrame complete s).footage := by
  rw [closeFrame_footage]
  exact ⟨rfl, rfl, rfl, rfl, rfl⟩

theorem decideCue_sameCounter (l : Lookup) (t : TransportState) (d : Direction) (s : State) :
    s.footage.SameCounter (decideCue l t d s).footage := by
  unfold decideCue
  split <;> exact ⟨rfl, rfl, rfl, rfl, rfl⟩

theorem openAfterClose_sameCounter (b : Fin 4) (s : State) : s.footage.SameCounter (openAfterClose b s).footage := by
  refine .trans (sameCounter_of_eq ?_) (decideCue_sameCounter _ _ _ _)
  simp

theorem openFrame_sameCounter (b : Fin 4) (s : State) : s.footage.SameCounter (openFrame b s).footage :=
  (closeFrame_sameCounter false s).trans (openAfterClose_sameCounter b _)

theorem pictureWord_sameCounter (b : Fin 4) (a o : Nat) (w : Word) (s : State) :
    s.footage.SameCounter (pictureWord b a o w s).footage := by
  unfold pictureWord
  split
  · exact (openFrame_sameCounter b s).trans (sameCounter_of_eq (by simp))
  · split
    · unfold closeAtLastOffset
      split
      · exact .trans (sameCounter_of_eq (by simp)) (closeFrame_sameCounter true _)
      · exact sameCounter_of_eq (by simp)
    · exact sameCounter_of_eq (by simp)

theorem restart_sameCounter (s : State) : s.footage.SameCounter (restart s).footage := by
  simpa [restart] using closeFrame_sameCounter false s

theorem retarget_sameCounter (t : TableId) (s : State) : s.footage.SameCounter (retarget t s).footage := by
  simpa [retarget] using closeFrame_sameCounter false s

theorem reloadAll_sameCounter (s : State) : s.footage.SameCounter (reloadAll s).footage := by
  simpa [reloadAll] using closeFrame_sameCounter false s

theorem enterUnset_sameCounter (s : State) : s.footage.SameCounter (enterUnset s).footage := by
  simpa [enterUnset] using closeFrame_sameCounter false s

theorem enableChanged_sameCounter (s : State) : s.footage.SameCounter (enableChanged s).footage := by
  unfold enableChanged
  split <;> try split
  case h_2.isFalse => simpa using closeFrame_sameCounter false s
  all_goals exact .refl _

/-- Only a preset, among the commands of the command word, reaches the counter (R31). -/
theorem issueCommand_counter (w : Word) (s : State) :
    s.footage.SameCounter (issueCommand w s).footage ∨ issueCommand w s = presetFrame (signedBits w 0 24) s := by
  unfold issueCommand
  split
  · exact .inl (.refl _)
  · exact .inr rfl
  · exact .inl (reloadAll_sameCounter s)
  all_goals exact .inl (sameCounter_of_eq (by simp))

theorem takeSpeedResult_sameCounter (b : Bool) (q : Nat) (s : State) :
    s.footage.SameCounter (takeSpeedResult b q s).footage := by
  unfold takeSpeedResult
  split <;> exact ⟨rfl, rfl, rfl, rfl, rfl⟩

theorem divisionCompletes_sameCounter (s : State) : s.footage.SameCounter (divisionCompletes s).footage := by
  unfold divisionCompletes
  split
  · unfold handQuotient
    dsimp only
    split
    · exact sameCounter_of_eq (by simp)
    · exact sameCounter_of_eq (by simp)
    · exact .trans (sameCounter_of_eq (by simp)) (takeSpeedResult_sameCounter _ _ _)
  · exact .refl _

theorem endCueIfDue_sameCounter (s : State) : s.footage.SameCounter (endCueIfDue s).footage := by
  unfold endCueIfDue
  split <;> exact ⟨rfl, rfl, rfl, rfl, rfl⟩

/-! ## What reaches the footage counter -/

/-- Words other than setup words 1, 15 and 16 leave the counter alone (R30, R31, R34). -/
theorem takeWord_sameCounter {k : SetupWord} (hc : k ≠ .command) (hf : k ≠ .footage) (hs : k ≠ .stopLimit) (w : Word)
    (s : State) : s.footage.SameCounter (takeWord k w s).footage := by
  unfold takeWord
  cases k <;> dsimp only
  case command | footage | stopLimit => contradiction
  case control =>
    split
    · exact .trans (sameCounter_of_eq (by split <;> simp)) (enableChanged_sameCounter _)
    · exact sameCounter_of_eq (by split <;> simp)
  case geometry => split; exacts [.trans (sameCounter_of_eq (by simp)) (restart_sameCounter _), .refl _]
  case bufferBase => split; exacts [.trans (sameCounter_of_eq (by simp)) (restart_sameCounter _), .refl _]
  case tableBase => split; exacts [.trans (sameCounter_of_eq (by simp)) (retarget_sameCounter _ _), .refl _]
  case ringBase | ringSize => exact sameCounter_of_eq (by split <;> simp)
  all_goals exact sameCounter_of_eq (by simp)

/-- A word other than setup words 15 and 16 leaves ppf and the stop limit alone. -/
theorem takeWord_ppf_stopLimit {k : SetupWord} (hf : k ≠ .footage) (hs : k ≠ .stopLimit) (w : Word) (s : State) :
    (takeWord k w s).setup.ppf = s.setup.ppf ∧ (takeWord k w s).setup.stopLimit = s.setup.stopLimit := by
  rcases takeWord_setup k w s with e | e <;> rw [e]
  · exact ⟨rfl, rfl⟩
  · unfold takeFields
    cases k <;> dsimp only
    case footage | stopLimit => contradiction
    case legal => split <;> exact ⟨rfl, rfl⟩
    all_goals exact ⟨rfl, rfl⟩

/-- R34: the stop limit's expiry keeps the frame number and the phase. -/
theorem expireIfDue_count (s : State) :
    (expireIfDue s).footage.number = s.footage.number ∧ (expireIfDue s).footage.phase = s.footage.phase := by
  unfold expireIfDue expireStopLimit
  split <;> simp

/-! ## A property of the setup values and the footage counter -/

/-- A property that looks at the footage counter, at ppf and at the stop limit alone is kept by every step when setup
words, edges, expiries and the time base keep it. -/
theorem step_keeps_counter {R : State → Prop}
    (same : ∀ {s t : State}, s.footage.SameCounter t.footage → t.setup.ppf = s.setup.ppf →
      t.setup.stopLimit = s.setup.stopLimit → R s → R t)
    (word : ∀ k w s, SetupInRange s → R s → R (takeWord k w s))
    (taking : ∀ s, SetupInRange s → R s → R (takeSetup s)) (reset : ∀ s, R (resetBlocks s))
    (edge : ∀ d s, SetupInRange s → R s → R (perforationEdge d s)) (stop : ∀ s, R s → R (expireIfDue s))
    (tick : ∀ s, SetupInRange s → R s → R (tick s)) {s s' : State} (hs : step s = .next s') (hr : SetupInRange s)
    (h : R s) : R s' := by
  have keep : ∀ {s t : State}, R s → t.setup = s.setup → t.footage = s.footage → R t := fun h hu hf =>
    same (sameCounter_of_eq hf) (by rw [hu]) (by rw [hu]) h
  have capture : ∀ k w s, SetupInRange s → R s → R (captureSetup k w s) := by
    intro k w s hs h
    have inUse : ∀ t : State, SetupInRange t → R t → R (captureInUse (setupWordAt k) w t) := by
      intro t ht hf
      unfold captureInUse
      split
      · exact same (enterUnset_sameCounter t) (by simp) (by simp) hf
      · exact word _ _ _ ht hf
    have h' : R (s.withShadow (s.shadow.set k.val w)) := keep h rfl rfl
    unfold captureSetup
    split
    · exact h
    · dsimp only
      split
      · unfold captureInUnset
        split
        · exact taking _ hs h'
        · exact h'
      all_goals exact inUse _ hs h'
  have setupRead : ∀ q s, SetupInRange s → R s → R (completeSetupRead q s) := by
    intro q s hs h
    have hs' : SetupInRange (installSetupRead q s) := by simpa [setupInRange_iff] using hs
    have h' : R (installSetupRead q s) := keep h (by simp) (by simp)
    unfold completeSetupRead
    dsimp only
    split
    · exact keep h (by simp) (by simp)
    · split
      · exact taking _ hs' h'
      · exact h'
  have both : SetupInRange s' ∧ R s' := by
    refine step_keeps (P := fun s => SetupInRange s ∧ R s) ?pending
      (forwardWord_keeps ?pass ?fault ?setup ?table ?picture) ?returned ?waiting ?reset ?release ?setupRead ?tableRead
      ?report ?issue ?edge ?stop ?cue ?division ?cells ?verify ?timeOut ?select ?tick ⟨hr, h⟩ hs
    case setup => exact fun k w s h => ⟨captureSetup_setup_keeps takeFields_inRange k w s h.1, capture k w s h.1 h.2⟩
    case picture =>
      exact fun b a o w s _ _ h =>
        ⟨by simpa [setupInRange_iff] using h.1, same (pictureWord_sameCounter b a o w s) (by simp) (by simp) h.2⟩
    case setupRead =>
      exact fun q _ s _ h =>
        ⟨completeSetupRead_setup_keeps takeFields_inRange q _ h.1, setupRead q _ h.1 (keep h.2 (by simp) (by simp))⟩
    case reset => exact fun s _ => ⟨resetBlocks_setupInRange _, reset _⟩
    case release => intro b s h; unfold releaseReset; split; exacts [⟨h.1, keep h.2 rfl rfl⟩, h]
    case edge => exact fun d s h => ⟨by simpa [setupInRange_iff] using h.1, edge d s h.1 h.2⟩
    case stop => exact fun s h => ⟨by simpa [setupInRange_iff] using h.1, stop s h.2⟩
    case cue =>
      exact fun s h => ⟨by simpa [setupInRange_iff] using h.1, same (endCueIfDue_sameCounter s) (by simp) (by simp) h.2⟩
    case division =>
      exact fun s h =>
        ⟨by simpa [setupInRange_iff] using h.1, same (divisionCompletes_sameCounter s) (by simp) (by simp) h.2⟩
    case tick =>
      refine fun s ⟨h, hf⟩ => ⟨?_, tick s h hf⟩
      rw [setupInRange_iff] at h ⊢
      unfold Machine.tick takeDueTimeouts
      split <;> simpa using h
    all_goals intros
    all_goals exact ⟨by simp_all [setupInRange_iff], keep (And.right (by assumption)) (by simp) (by simp)⟩
  exact both.2

end Sys2Proof.Machine
end

section
/-! Every step keeps the setup values, the footage and the running transport in their ranges (R14, R15, R29, R34). -/

namespace Sys2Proof.Machine

/-! ## The frame number and the phase (R29) -/

theorem footageInRange_of_same {s t : State} (hf : s.footage.SameCounter t.footage) (hp : t.setup.ppf = s.setup.ppf)
    (h : FootageInRange s) : FootageInRange t := by
  unfold FootageInRange at h ⊢
  rwa [hf.number, hf.phase, hp]

theorem boundFrame_range (n : Int) : -99999 ≤ boundFrame n ∧ boundFrame n ≤ 999999 := by
  simp only [boundFrame, clampInt, leastFrame, greatestFrame]
  omega

theorem presetFrame_footageInRange (n : Int) (s : State) (hs : SetupInRange s) : FootageInRange (presetFrame n s) := by
  obtain ⟨-, -, ⟨hppf, -⟩, -⟩ := hs
  refine ⟨boundFrame_range n, ?_⟩
  simp [presetFrame]
  omega

theorem expireIfDue_footageInRange {s : State} (h : FootageInRange s) : FootageInRange (expireIfDue s) := by
  unfold FootageInRange at h ⊢
  rw [(expireIfDue_count s).1, (expireIfDue_count s).2]
  simpa using h

/-- R30: a change of ppf sets the phase to 0, and without one the phase still lies below ppf. -/
theorem ppfTaken_footageInRange {s : State} {u : Setup} (hu : u.InRange) (h : FootageInRange s) :
    FootageInRange (if u.ppf ≠ s.setup.ppf then ppfChanged (s.withSetup u) else s.withSetup u) := by
  obtain ⟨-, -, ⟨hppf, -⟩, -⟩ := hu
  split
  · exact ⟨h.1, by simp [ppfChanged]; omega⟩
  · next he => exact ⟨h.1, by simpa [not_not.1 he] using h.2⟩

theorem takeWord_footageInRange (k : SetupWord) (w : Word) {s : State} (hs : SetupInRange s) (h : FootageInRange s) :
    FootageInRange (takeWord k w s) := by
  by_cases hk : k = .command ∨ k = .footage ∨ k = .stopLimit
  · rcases hk with rfl | rfl | rfl
    · change FootageInRange (issueCommand w s)
      rcases issueCommand_counter w s with hf | he
      · exact footageInRange_of_same hf (by simp) h
      · exact he ▸ presetFrame_footageInRange _ s hs
    · exact ppfTaken_footageInRange (takeFields_inRange .footage w _ hs) h
    · exact expireIfDue_footageInRange (s := s.withSetup _) h
  · push Not at hk
    obtain ⟨hc, hf, hl⟩ := hk
    exact footageInRange_of_same (takeWord_sameCounter hc hf hl w s) (takeWord_ppf_stopLimit hf hl w s).1 h

theorem takeSetup_footageInRange {s : State} (hs : SetupInRange s) (h : FootageInRange s) :
    FootageInRange (takeSetup s) := by
  have hu : (takeShadow s.shadow s.setup).InRange := takeShadow_keeps takeFields_inRange _ hs
  have taken := expireIfDue_footageInRange (ppfTaken_footageInRange hu h)
  refine footageInRange_of_same ?_ ?_ taken
  · unfold takeSetup
    simp only [resumeReload_frame, makeAllPending_frame, State.withPartState_footage, resetRing_frame]
    exact .trans (sameCounter_of_eq (by simp)) (restart_sameCounter _)
  · unfold takeSetup
    simp

/-- R27 to R29: an accepted edge counts within the ranges, or is held at a limit of the frame number. -/
theorem footageAfterEdge_range (dir : Direction) {ppf : Nat} {f : Footage} (hp : 1 ≤ ppf)
    (hn : -99999 ≤ f.number ∧ f.number ≤ 999999) (hf : f.phase < ppf) :
    (-99999 ≤ (footageAfterEdge dir ppf f).number ∧ (footageAfterEdge dir ppf f).number ≤ 999999)
      ∧ (footageAfterEdge dir ppf f).phase < ppf := by
  have hg : greatestFrame = 999999 := rfl
  have hl : leastFrame = -99999 := rfl
  unfold footageAfterEdge
  dsimp only
  split
  · exact ⟨hn, hf⟩
  · next held =>
    cases dir <;> simp only [edgeHeld, Bool.and_eq_true, decide_eq_true_eq] at held <;>
      simp only [countEdge] <;> split <;> simp only <;> omega

theorem acceptEdge_footage (d : Direction) (s : State) :
    (acceptEdge d s).footage = footageAfterEdge d s.setup.ppf s.footage := by
  unfold acceptEdge
  dsimp only
  split <;> split <;> simp

theorem perforationEdge_footageInRange (d : Direction) {s : State} (hs : SetupInRange s) (h : FootageInRange s) :
    FootageInRange (perforationEdge d s) := by
  obtain ⟨-, -, ⟨hppf, -⟩, -⟩ := hs
  unfold perforationEdge
  split
  · exact h
  · split
    · unfold FootageInRange
      rw [acceptEdge_footage]
      simpa using footageAfterEdge_range d hppf h.1 h.2
    · exact h

theorem tick_footageInRange {s : State} (h : FootageInRange s) : FootageInRange (tick s) := by
  unfold tick
  split
  · exact h
  · have stopped := expireIfDue_footageInRange h
    have cue := footageInRange_of_same (endCueIfDue_sameCounter (expireIfDue s)) (by simp) stopped
    exact footageInRange_of_same (t := timeOutIfDue _) (sameCounter_of_eq (by simp)) (by simp) cue

theorem step_keeps_footageInRange {s s' : State} (hs : step s = .next s') (hr : SetupInRange s) (h : FootageInRange s) :
    FootageInRange s' := by
  refine step_keeps_counter ?same ?word ?taking ?reset ?edge ?stop ?tick hs hr h
  case same => exact fun hf hp _ => footageInRange_of_same hf hp
  case word => exact fun k w s => takeWord_footageInRange k w
  case taking => exact fun s => takeSetup_footageInRange
  case reset => intro s; change FootageInRange State.held; unfold FootageInRange; decide
  case edge => exact fun d s => perforationEdge_footageInRange d
  case stop => exact fun s => expireIfDue_footageInRange
  case tick => exact fun s _ => tick_footageInRange

end Sys2Proof.Machine
end

section
/-! Every step keeps a running transport within the stop limit of its last accepted edge (R34). -/

namespace Sys2Proof.Machine

theorem runningWithin_of_eq {s t : State} (ht : t.footage.transport = s.footage.transport)
    (hc : t.footage.clock = s.footage.clock) (he : t.footage.lastEdge = s.footage.lastEdge)
    (hl : t.setup.stopLimit = s.setup.stopLimit) (h : RunningWithinStopLimit s) : RunningWithinStopLimit t := by
  unfold RunningWithinStopLimit at h ⊢
  rwa [ht, hc, he, hl]

theorem runningWithin_of_same {s t : State} (hf : s.footage.SameCounter t.footage)
    (hl : t.setup.stopLimit = s.setup.stopLimit) (h : RunningWithinStopLimit s) : RunningWithinStopLimit t :=
  runningWithin_of_eq hf.transport hf.clock hf.lastEdge hl h

/-- A running transport has a last accepted edge. -/
def RunningHasEdge (s : State) : Prop := s.footage.transport = .running → ∃ e, s.footage.lastEdge = some e

/-- A running transport's last accepted edge is less than the stop limit ago. -/
def RunningBelowStopLimit (s : State) : Prop :=
  s.footage.transport = .running → ∃ e, s.footage.lastEdge = some e ∧ microseconds e s.footage.clock < s.setup.stopLimit

theorem RunningWithinStopLimit.hasEdge {s : State} (h : RunningWithinStopLimit s) : RunningHasEdge s := by
  intro hr
  obtain ⟨e, he, -⟩ := h hr
  exact ⟨e, he⟩

theorem RunningBelowStopLimit.within {s : State} (h : RunningBelowStopLimit s) : RunningWithinStopLimit s := by
  intro hr
  obtain ⟨e, he, hl⟩ := h hr
  exact ⟨e, he, hl.le⟩

theorem expireStopLimit_stopped (s : State) : (expireStopLimit s).footage.transport = .stopped := by
  simp [expireStopLimit]

/-- R34: once an expiry that is due has been taken, the transport is stopped or the limit has not been reached. -/
theorem expireIfDue_below {s : State} (h : RunningHasEdge s) : RunningBelowStopLimit (expireIfDue s) := by
  unfold expireIfDue
  split
  · intro hr
    rw [expireStopLimit_stopped] at hr
    cases hr
  · next due =>
    intro hr
    obtain ⟨e, he⟩ := h hr
    refine ⟨e, he, ?_⟩
    simpa [stopLimitDue, hr, sinceLastEdge, he] using due

/-- R32, R34: one µs after the limit was not yet reached it is at most reached; the 20-bit counter does not wrap past it. -/
theorem RunningBelowStopLimit.advanceClock {s : State} (hs : SetupInRange s) (h : RunningBelowStopLimit s) :
    RunningWithinStopLimit (s.withFootage { s.footage with clock := s.footage.clock + 1 }) := by
  obtain ⟨-, -, -, ⟨-, hmax⟩, -⟩ := hs
  intro hr
  obtain ⟨e, he, hl⟩ := h hr
  refine ⟨e, he, ?_⟩
  simp only [State.withFootage_footage, State.withFootage_setup, microseconds] at hl ⊢
  bv_omega

theorem takeWord_runningWithin (k : SetupWord) (w : Word) {s : State} (h : RunningWithinStopLimit s) :
    RunningWithinStopLimit (takeWord k w s) := by
  by_cases hk : k = .command ∨ k = .footage ∨ k = .stopLimit
  · rcases hk with rfl | rfl | rfl
    · change RunningWithinStopLimit (issueCommand w s)
      rcases issueCommand_counter w s with hf | he
      · exact runningWithin_of_same hf (by simp) h
      · exact he ▸ h
    · change RunningWithinStopLimit (if _ then ppfChanged (s.withSetup _) else s.withSetup _)
      split <;> exact h
    · exact (expireIfDue_below (s := s.withSetup (takeFields .stopLimit w s.setup)) h.hasEdge).within
  · push Not at hk
    obtain ⟨hc, hf, hl⟩ := hk
    exact runningWithin_of_same (takeWord_sameCounter hc hf hl w s) (takeWord_ppf_stopLimit hf hl w s).2 h

theorem takeSetup_runningWithin {s : State} (h : RunningWithinStopLimit s) : RunningWithinStopLimit (takeSetup s) := by
  have edge : RunningHasEdge (if (takeShadow s.shadow s.setup).ppf ≠ s.setup.ppf
      then ppfChanged (s.withSetup (takeShadow s.shadow s.setup)) else s.withSetup (takeShadow s.shadow s.setup)) := by
    split <;> exact h.hasEdge
  refine runningWithin_of_same ?_ ?_ (expireIfDue_below edge).within
  · unfold takeSetup
    simp only [resumeReload_frame, makeAllPending_frame, State.withPartState_footage, resetRing_frame]
    exact .trans (sameCounter_of_eq (by simp)) (restart_sameCounter _)
  · unfold takeSetup
    simp

theorem perforationEdge_runningWithin (d : Direction) {s : State} (h : RunningWithinStopLimit s) :
    RunningWithinStopLimit (perforationEdge d s) := by
  unfold perforationEdge
  split
  · exact h
  · split
    · intro _
      rw [acceptEdge_footage]
      exact ⟨s.footage.clock, rfl, by simp [footageAfterEdge, microseconds]⟩
    · exact h

theorem tick_runningWithin {s : State} (hs : SetupInRange s) (h : RunningWithinStopLimit s) :
    RunningWithinStopLimit (tick s) := by
  unfold tick
  split
  · exact h
  · refine RunningBelowStopLimit.advanceClock ?_ ?_
    · simpa [setupInRange_iff, takeDueTimeouts] using hs
    · have below := expireIfDue_below h.hasEdge
      have same := endCueIfDue_sameCounter (expireIfDue s)
      unfold RunningBelowStopLimit at below ⊢
      simpa [takeDueTimeouts, same.transport, same.clock, same.lastEdge] using below

theorem step_keeps_runningWithin {s s' : State} (hs : step s = .next s') (hr : SetupInRange s)
    (h : RunningWithinStopLimit s) : RunningWithinStopLimit s' := by
  refine step_keeps_counter ?same ?word ?taking ?reset ?edge ?stop ?tick hs hr h
  case same => exact fun hf _ hl => runningWithin_of_same hf hl
  case word => exact fun k w s _ => takeWord_runningWithin k w
  case taking => exact fun s _ => takeSetup_runningWithin
  case reset => exact fun s hr => nomatch hr
  case edge => exact fun d s _ => perforationEdge_runningWithin d
  case stop => exact fun s h => (expireIfDue_below h.hasEdge).within
  case tick => exact fun s => tick_runningWithin

/-- Settles O55: the clamps of `takeFields` keep the setup values, an accepted edge keeps the counter, and an expiry that
is taken when due keeps the time since the last edge. -/
theorem stepsKeepSetupAndFootageInRange : Obligations.StepsKeepSetupAndFootageInRange := by
  intro s s' hs hr
  exact ⟨step_keeps_setupInRange hs hr, step_keeps_footageInRange hs hr, step_keeps_runningWithin hs hr⟩

end Sys2Proof.Machine
end

section
/-! The memory port under the operations that request and withdraw own accesses: the transactions that wait stay, and no
access of the part's own appears (R6, R196). -/

namespace Sys2Proof.Machine

/-- Port `q` differs from port `p` in its requests, and in the marks of the access in progress, at most. -/
structure MemoryPort.Follows (p q : MemoryPort) : Prop where
  waiting : q.waiting = p.waiting
  idle : p.inProgress = none → q.inProgress = none
  report : ∀ w cells d, q.inProgress = some (.report w cells d) → ∃ d', p.inProgress = some (.report w cells d')

namespace MemoryPort.Follows

theorem refl (p : MemoryPort) : p.Follows p := ⟨rfl, id, fun _ _ d h => ⟨d, h⟩⟩

theorem of_eq {p q : MemoryPort} (h : q = p) : p.Follows q := h ▸ refl p

theorem trans {p q r : MemoryPort} (a : p.Follows q) (b : q.Follows r) : p.Follows r := by
  refine ⟨b.waiting.trans a.waiting, fun h => b.idle (a.idle h), fun w cells d h => ?_⟩
  obtain ⟨d', h'⟩ := b.report w cells d h
  exact a.report w cells d' h'

theorem withRequests (p : MemoryPort) (r : Option ReloadRead) (w : Option ReportWrite) :
    p.Follows { p with reloadRequest := r, reportRequest := w } := ⟨rfl, id, fun _ _ d h => ⟨d, h⟩⟩

theorem withReload {p q : MemoryPort} (h : p.Follows q) (r : Option ReloadRead) :
    p.Follows { q with reloadRequest := r } := h.trans (withRequests q r q.reportRequest)

theorem withReport {p q : MemoryPort} (h : p.Follows q) (w : Option ReportWrite) :
    p.Follows { q with reportRequest := w } := h.trans (withRequests q q.reloadRequest w)

end MemoryPort.Follows

theorem withdrawReport_follows (every : Bool) (p : MemoryPort) : p.Follows (withdrawReport every p) := by
  unfold withdrawReport
  split
  · next w cells d hp =>
    split
    · exact ⟨rfl, fun h => by simp [hp] at h, fun w' cells' d' h => ⟨d, by simp_all⟩⟩
    · exact .refl p
  all_goals exact .refl p

theorem discardInProgress_follows (cleared : List TableId) (p : MemoryPort) : p.Follows (discardInProgress cleared p) := by
  unfold discardInProgress
  split
  · next ref part d hp => exact ⟨rfl, fun h => by simp [hp] at h, fun w cells d' h => by simp at h⟩
  all_goals exact .refl p

theorem requestPublication_follows (s : State) : s.port.Follows (requestPublication s).port := by
  unfold requestPublication requestReport
  split
  · exact (MemoryPort.Follows.refl _).withReport _
  · exact .refl _

theorem selectRecord_follows (s : State) : s.port.Follows (selectRecord s).port := by
  unfold selectRecord requestReport
  split
  · exact .refl _
  · split
    · exact (MemoryPort.Follows.refl _).withReport _
    · exact .refl _

theorem afterReportWrite_follows (w : ReportWrite) (s : State) : s.port.Follows (afterReportWrite w s).port := by
  unfold afterReportWrite requestReport
  split
  case h_3 => exact .of_eq (by simp)
  case h_4 => exact .refl _
  all_goals exact (MemoryPort.Follows.refl _).withReport _

theorem resetRing_follows (s : State) : s.port.Follows (resetRing s).port :=
  (withdrawReport_follows true s.port).withReport _

theorem suspendReports_follows (s : State) : s.port.Follows (suspendReports s).port :=
  (withdrawReport_follows false s.port).withReport _

theorem installPart_port (ref : ItemRef) (part : ItemPart) (s : State) : (installPart ref part s).port = s.port := by
  simp

theorem requestPart_follows (fuel : Nat) (ref : ItemRef) (part : ItemPart) (s : State) :
    s.port.Follows (requestPart fuel ref part s).port := by
  induction fuel generalizing ref part s with
  | zero => exact .refl _
  | succ fuel ih =>
    unfold requestPart
    dsimp only
    split
    · exact (MemoryPort.Follows.refl _).withReload _
    · split
      · exact .trans (.of_eq (by simp)) (ih _ _ _)
      · exact .of_eq (by simp)

theorem requestFirstPending_follows (s : State) : s.port.Follows (requestFirstPending s).port := by
  unfold requestFirstPending
  split
  · exact requestPart_follows _ _ _ _
  · exact .refl _

theorem resumeReload_follows (s : State) : s.port.Follows (resumeReload s).port := by
  unfold resumeReload
  split
  · exact .of_eq (by simp)
  · exact .trans (requestFirstPending_follows s) (.of_eq (by simp))

theorem restartReload_follows (cleared : List TableId) (s : State) :
    s.port.Follows (restartReload cleared s).port := by
  unfold restartReload
  exact .trans (q := { discardInProgress cleared s.port with reloadRequest := _ })
    ((discardInProgress_follows cleared s.port).withReload _) (resumeReload_follows (s.withPort _))

theorem abandonReload_follows (s : State) : s.port.Follows (abandonReload s).port :=
  (discardInProgress_follows allTables s.port).withReload none

theorem retarget_follows (t : TableId) (s : State) : s.port.Follows (retarget t s).port :=
  .trans (.of_eq (by simp)) (restartReload_follows _ _)

theorem reloadAll_follows (s : State) : s.port.Follows (reloadAll s).port :=
  .trans (.of_eq (by simp)) (restartReload_follows _ _)

theorem completeTableRead_follows (ref : ItemRef) (part : ItemPart) (discard : Bool) (s : State) :
    s.port.Follows (completeTableRead ref part discard s).port := by
  unfold completeTableRead
  split
  · exact resumeReload_follows s
  · dsimp only
    split
    · simp only [leaveLoading_frame]
      exact .trans (.of_eq (installPart_port ref part s)) (requestPart_follows _ _ _ _)
    · exact .of_eq (by simp)

theorem issueCommand_follows (w : Word) (s : State) : s.port.Follows (issueCommand w s).port := by
  unfold issueCommand
  split
  case h_3 => exact reloadAll_follows s
  all_goals exact .of_eq (by simp)

theorem takeWord_follows (k : SetupWord) (w : Word) (s : State) : s.port.Follows (takeWord k w s).port := by
  unfold takeWord
  cases k <;> dsimp only
  case command => exact issueCommand_follows w s
  case tableBase => split; exacts [.trans (.of_eq (by simp)) (retarget_follows _ _), .refl _]
  case ringBase | ringSize => split; exacts [.trans (.of_eq (by simp)) (resetRing_follows _), .refl _]
  case control => exact .of_eq (by (repeat' split) <;> simp)
  all_goals exact .of_eq (by (try split) <;> simp)

theorem takeSetup_follows (s : State) : s.port.Follows (takeSetup s).port := by
  unfold takeSetup
  dsimp only
  refine .trans ?_ (resumeReload_follows _)
  simp only [makeAllPending_frame, State.withPartState_port]
  refine .trans (.of_eq ?_) (resetRing_follows _)
  split <;> simp

theorem enterUnset_follows (s : State) : s.port.Follows (enterUnset s).port := by
  unfold enterUnset
  refine .trans ?_ (suspendReports_follows _)
  simp only [State.withPartState_port, clearAllTables_frame]
  exact .trans (.of_eq (by simp)) (abandonReload_follows _)

theorem captureSetup_follows (k : Fin 64) (w : Word) (s : State) : s.port.Follows (captureSetup k w s).port := by
  have inUse : ∀ t : State, t.port = s.port → s.port.Follows (captureInUse (setupWordAt k) w t).port := by
    intro t ht
    unfold captureInUse
    split
    · exact .trans (.of_eq ht) (enterUnset_follows t)
    · exact .trans (.of_eq ht) (takeWord_follows _ _ t)
  unfold captureSetup
  split
  · exact .refl _
  · dsimp only
    split
    · unfold captureInUnset
      split
      · exact .trans (.of_eq (by simp)) (takeSetup_follows _)
      · exact .of_eq (by simp)
    all_goals exact inUse _ (by simp)

theorem completeSetupRead_follows (q : Fin 4) (s : State) : s.port.Follows (completeSetupRead q s).port := by
  unfold completeSetupRead
  dsimp only
  split
  · simpa using (MemoryPort.Follows.refl s.port).withReload _
  · split
    · exact .trans (.of_eq (by simp)) (takeSetup_follows _)
    · exact .of_eq (by simp)

/-- A forwarded transaction starts no access of the part's own and lets the transactions that wait be. -/
theorem forwardWord_follows (m : Master) (a : Nat) (w : WriteWord) (s : State) :
    s.port.Follows (forwardWord m a w s).port :=
  forwardWord_keeps (P := fun t => s.port.Follows t.port) (fun _ _ _ _ h => h.trans (.of_eq (by simp)))
    (fun _ _ h => h.trans (.of_eq (by simp))) (fun _ _ _ h => h.trans (captureSetup_follows _ _ _))
    (fun _ _ _ _ _ h => h.trans (.of_eq (by simp))) (fun _ _ _ _ _ _ _ h => h.trans (.of_eq (by simp))) m a w s (.refl _)

theorem forwardTransaction_follows (t : Transaction) (s : State) : s.port.Follows (forwardTransaction t s).port := by
  have words : ∀ ws a u, s.port.Follows u.port → s.port.Follows (forwardWords t.master a ws u).port := by
    intro ws
    induction ws with
    | nil => exact fun _ _ h => h
    | cons w ws ih => exact fun a u h => ih _ _ (h.trans (forwardWord_follows _ _ _ _))
  unfold forwardTransaction
  split
  · exact words _ _ _ (.refl _)
  · exact .of_eq (by simp)

end Sys2Proof.Machine
end

section
/-! The frame store: what a forwarded word writes, and what every step keeps of the store, of the bases in use and of the
addresses at the memory port (R2, R189). -/

namespace Sys2Proof.Machine

/-! ## What a forwarded word writes -/

/-- A picture word reaches memory as one full word at its address (R95, R100). -/
theorem pictureWord_store (b : Fin 4) (a o : Nat) (w : Word) (s : State) :
    ∃ v, (pictureWord b a o w s).store = writeWord s.store a v := by
  have graded : ∀ (o : Nat) (t : State), t.store = s.store →
      ∃ v, (gradeInOpenFrame a o w t).store = writeWord s.store a v := by
    intro o t ht
    unfold gradeInOpenFrame
    split
    · exact ⟨_, by simp [gradeWord, ht]; rfl⟩
    · exact ⟨w, by simp [passOrphan, ht]⟩
  unfold pictureWord
  split
  · exact graded 0 _ (by simp)
  · split
    · simpa using graded o s rfl
    · exact ⟨w, by simp [passOrphan]⟩

/-- R4, R5: a word in the store is written with its lanes, a word past it is dropped; a master other than SCAN has it
written as it stands. -/
theorem forwardWord_store (m : Master) (a : Nat) (w : WriteWord) (s : State) :
    ∃ v, (forwardWord m a w s).store = (if inStore a then writeLanes s.store a v w.lanes else s.store)
      ∧ (m ≠ .scan → v = w.data) := by
  unfold forwardWord
  split
  · split
    · exact ⟨w.data, rfl, fun _ => rfl⟩
    · split
      · next hl =>
        rw [hl]
        unfold forwardFull
        split
        case h_4 =>
          split
          · next he =>
            obtain ⟨v, hv⟩ := pictureWord_store _ a _ w.data s
            exact ⟨v, hv, fun hm => by simp [examinesPicture, hm] at he⟩
          · exact ⟨w.data, by simp [passWord], fun _ => rfl⟩
        all_goals exact ⟨w.data, by simp [passWord], fun _ => rfl⟩
      · refine ⟨w.data, ?_, fun _ => rfl⟩
        unfold forwardPartial
        dsimp only
        split <;> simp [passWord]
  · exact ⟨w.data, rfl, fun _ => rfl⟩

/-- A written word puts no byte of the store outside its own four. -/
theorem mem_writeLanes {m : List Host.Cell} {a : Nat} {w : Word} {lanes : ByteLanes} {c : Host.Cell}
    (h : c ∈ writeLanes m a w lanes) : (a ≤ c.1 ∧ c.1 < a + 4) ∨ c ∈ m := by
  have lane : ∀ {m : List Host.Cell} {i : Nat}, i < 4 → c ∈ writeLane m a w lanes i →
      (a ≤ c.1 ∧ c.1 < a + 4) ∨ c ∈ m := by
    intro m i hi h
    unfold writeLane at h
    split at h
    · rcases mem_writeByte h with ⟨rfl, -⟩ | h
      · exact .inl ⟨by simp, by simp; omega⟩
      · exact .inr h
    · exact .inr h
  unfold writeLanes at h
  rcases lane (by omega) h with h | h
  · exact .inl h
  rcases lane (by omega) h with h | h
  · exact .inl h
  rcases lane (by omega) h with h | h
  · exact .inl h
  exact lane (by omega) h

/-! ## Addresses -/

/-- Every byte that the store lists lies in its 64 MiB. -/
def StoreWithin (m : List Host.Cell) : Prop := ∀ c ∈ m, c.1 < Config.storeBytes

/-- Every base in use is a word address of the store. -/
def Setup.BasesSound (u : Setup) : Prop :=
  (∀ b : Fin 4, WordAddress u.bufferBase[b.val]) ∧ (∀ t, WordAddress (u.tableBase.get t)) ∧ WordAddress u.ringBase

/-- Every waiting transaction begins at a multiple of 4 bytes, and every word of a report write in progress lies at a word
address of the store. -/
def MemoryPort.Sound (p : MemoryPort) : Prop :=
  (∀ t ∈ p.waiting, t.address % 4 = 0)
    ∧ ∀ w cells d, p.inProgress = some (.report w cells d) → ∀ c ∈ cells, WordAddress c.1

theorem addressesSound_iff (s : State) :
    AddressesSound s ↔ StoreWithin s.store ∧ s.setup.BasesSound ∧ s.port.Sound := by
  unfold AddressesSound StoreWithin Setup.BasesSound MemoryPort.Sound
  tauto

theorem MemoryPort.Follows.sound {p q : MemoryPort} (h : p.Follows q) (hp : p.Sound) : q.Sound := by
  refine ⟨h.waiting ▸ hp.1, fun w cells d hq => ?_⟩
  obtain ⟨d', hd⟩ := h.report w cells d hq
  exact hp.2 w cells d' hd

theorem wordAddress_baseAddress (w : Word) : WordAddress (baseAddress w) := by
  have := (w.extractLsb' 2 24).isLt
  unfold WordAddress baseAddress bits Config.storeBytes
  omega

theorem takeFields_basesSound (k : SetupWord) (w : Word) (u : Setup) (h : u.BasesSound) :
    (takeFields k w u).BasesSound := by
  obtain ⟨hb, ht, hr⟩ := h
  unfold takeFields
  cases k <;> dsimp only
  case bufferBase b =>
    refine ⟨fun i => ?_, ht, hr⟩
    simp only [Vector.getElem_set]
    split
    · exact wordAddress_baseAddress w
    · exact hb i
  case tableBase t =>
    refine ⟨hb, fun i => ?_, hr⟩
    simp only [PerTable.get_set]
    split
    · exact wordAddress_baseAddress w
    · exact ht i
  case ringBase => exact ⟨hb, ht, wordAddress_baseAddress w⟩
  case legal => split <;> exact ⟨hb, ht, hr⟩
  all_goals exact ⟨hb, ht, hr⟩

theorem basesSound_reset : Setup.reset.BasesSound := by
  refine ⟨fun b => ?_, fun t => ?_, ?_⟩
  · simp [Setup.reset, WordAddress, Config.storeBytes]
  · cases t <;> exact ⟨rfl, by decide⟩
  · exact ⟨rfl, by decide⟩

theorem WordAddress.inStore_of_eq {a : Nat} (h : a % 4 = 0) (hs : inStore a = true) : WordAddress a :=
  ⟨h, by simpa [inStore] using hs⟩

theorem StoreWithin.writeLanes {m : List Host.Cell} (h : StoreWithin m) {a : Nat} (ha : WordAddress a) (w : Word)
    (lanes : ByteLanes) : StoreWithin (writeLanes m a w lanes) := by
  obtain ⟨h4, hs⟩ := ha
  intro c hc
  rcases mem_writeLanes hc with hc | hc
  · unfold Config.storeBytes at hs ⊢
    omega
  · exact h c hc

theorem StoreWithin.writeCells {m : List Host.Cell} (h : StoreWithin m) {cells : List (Nat × Word)}
    (hc : ∀ c ∈ cells, WordAddress c.1) : StoreWithin (writeCells m cells) := by
  unfold Machine.writeCells
  induction cells generalizing m with
  | nil => exact h
  | cons c rest ih =>
    exact ih (h.writeLanes (hc c (by simp)) _ _) fun d hd => hc d (by simp [hd])

theorem StoreWithin.forwardWord {s : State} (h : StoreWithin s.store) (m : Master) {a : Nat} (ha : a % 4 = 0)
    (w : WriteWord) : StoreWithin (forwardWord m a w s).store := by
  obtain ⟨v, hv, -⟩ := forwardWord_store m a w s
  rw [hv]
  split
  · next hs => exact h.writeLanes (.inStore_of_eq ha hs) _ _
  · exact h

theorem forwardWord_basesSound (m : Master) (a : Nat) (w : WriteWord) {s : State} (h : s.setup.BasesSound) :
    (forwardWord m a w s).setup.BasesSound :=
  forwardWord_keeps (P := fun t => t.setup.BasesSound) (fun _ _ _ _ h => h) (fun _ _ h => by simpa using h)
    (captureSetup_setup_keeps takeFields_basesSound) (fun _ _ _ _ _ h => by simpa using h)
    (fun _ _ _ _ _ _ _ h => by simpa using h) m a w s h

/-! ## Transactions -/

theorem forwardTransaction_addressesSound {t : Transaction} (ht : t.address % 4 = 0) {s : State}
    (h : AddressesSound s) : AddressesSound (forwardTransaction t s) := by
  rw [addressesSound_iff] at h ⊢
  obtain ⟨hm, hu, hp⟩ := h
  have words : ∀ ws a (u : State), a % 4 = 0 → StoreWithin u.store → u.setup.BasesSound →
      StoreWithin (forwardWords t.master a ws u).store ∧ (forwardWords t.master a ws u).setup.BasesSound := by
    intro ws
    induction ws with
    | nil => exact fun _ _ _ hm hu => ⟨hm, hu⟩
    | cons w ws ih =>
      exact fun a u ha hm hu =>
        ih _ _ (by omega) (hm.forwardWord t.master ha w) (forwardWord_basesSound t.master a w hu)
  refine and_assoc.1 ⟨?_, (forwardTransaction_follows t s).sound hp⟩
  unfold forwardTransaction
  split
  · exact words _ _ _ ht hm hu
  · exact ⟨hm, hu⟩

theorem forwardWaiting_addressesSound {s : State} (h : AddressesSound s) : AddressesSound (forwardWaiting s) := by
  have all : ∀ (ts : List Transaction) (u : State), (∀ t ∈ ts, t.address % 4 = 0) → AddressesSound u →
      AddressesSound (forwardedInOrder ts u) := by
    intro ts
    induction ts with
    | nil => exact fun _ _ h => h
    | cons t ts ih =>
      exact fun u ht hu => ih _ (fun x hx => ht x (by simp [hx])) (forwardTransaction_addressesSound (ht t (by simp)) hu)
  rw [forwardWaiting_eq]
  obtain ⟨hm, hb, ht, hr, hw, hp⟩ := h
  exact all _ _ hw ⟨hm, hb, ht, hr, by simp, hp⟩

theorem arrive_addressesSound {t : Transaction} (ht : t.address % 4 = 0) {s : State} (h : AddressesSound s) :
    AddressesSound (arrive t s) := by
  unfold arrive
  split
  · obtain ⟨hm, hb, hta, hr, hw, hp⟩ := h
    refine ⟨hm, hb, hta, hr, fun x hx => ?_, hp⟩
    rcases List.mem_append.1 hx with hx | hx
    · exact hw x hx
    · exact List.mem_singleton.1 hx ▸ ht
  · exact forwardTransaction_addressesSound ht h

/-- The address of a table item's word is a multiple of 4 bytes when its table's base is. -/
theorem itemAddress_aligned {u : Setup} (h : u.BasesSound) (ref : ItemRef) (o : Nat) : itemAddress u ref o % 4 = 0 := by
  obtain ⟨-, ht, -⟩ := h
  have hb := (ht ref.table).1
  have hs : ref.table.stride % 4 = 0 := by cases ref <;> simp [ItemRef.table, TableId.stride]
  have := Nat.mul_mod ref.table.stride ref.index 4
  rw [hs] at this
  unfold itemAddress
  omega

/-! ## Accesses of the part's own -/

/-- R184, R189: a report write carries word addresses of the store alone. -/
theorem reportCells_wordAddress {s : State} (h : s.setup.BasesSound) (w : ReportWrite) :
    ∀ c ∈ reportCells w s, WordAddress c.1 := by
  obtain ⟨-, -, hr, -⟩ := h
  have ring : ∀ o ws, ∀ c ∈ ringCells s o ws, WordAddress c.1 := by
    intro o ws c hc
    simp only [ringCells, List.mem_filter, List.mem_map] at hc
    obtain ⟨⟨x, -, rfl⟩, hs⟩ := hc
    exact .inStore_of_eq (by simp only; omega) hs
  have head : WordAddress (setupAddress s 3) :=
    .inStore_of_eq (by simp [setupAddress, setupBase]; omega) (inStore_setupAddress s 3)
  unfold reportCells
  split
  · exact ring _ _
  · exact ring _ _
  all_goals simpa using head

theorem issueOwnAccess_addressesSound {s : State} (h : AddressesSound s) : AddressesSound (issueOwnAccess s) := by
  have h' := h
  rw [addressesSound_iff] at h
  obtain ⟨hm, hu, hw, hp⟩ := h
  unfold issueOwnAccess
  split
  · exact h'
  · rw [addressesSound_iff]
    split
    · exact ⟨hm, hu, hw, fun w cells d h => by simp at h⟩
    · refine ⟨hm, hu, hw, fun w' cells d h => ?_⟩
      simp only [State.withPort_port, Option.some.injEq, OwnAccess.report.injEq] at h
      obtain ⟨-, rfl, -⟩ := h
      exact reportCells_wordAddress hu _
    · exact ⟨hm, hu, hw, hp⟩

theorem abandonAccess_storeWithin {s : State} (h : AddressesSound s) : StoreWithin (abandonAccess s).store := by
  rw [addressesSound_iff] at h
  obtain ⟨hm, -, -, hp⟩ := h
  unfold abandonAccess
  split
  · next w cells d hi => exact hm.writeCells fun c hc => hp _ _ _ hi c (List.mem_of_mem_take hc)
  all_goals exact hm

theorem freePort_sound {p : MemoryPort} (h : p.Sound) : MemoryPort.Sound { p with inProgress := none } :=
  ⟨h.1, fun _ _ _ h => by simp at h⟩

/-! ## Every step -/

/-- A change that leaves the store and the bases alone, and follows at the port, keeps the addresses. -/
theorem addressesSound_of_follows {s t : State} (hm : t.store = s.store) (hu : t.setup = s.setup)
    (hp : s.port.Follows t.port) (h : AddressesSound s) : AddressesSound t := by
  rw [addressesSound_iff] at h ⊢
  obtain ⟨h1, h2, h3⟩ := h
  exact ⟨hm ▸ h1, hu ▸ h2, hp.sound h3⟩

theorem addressesSound_of_eq {s t : State} (hm : t.store = s.store) (hu : t.setup = s.setup) (hp : t.port = s.port)
    (h : AddressesSound s) : AddressesSound t := addressesSound_of_follows hm hu (.of_eq hp) h

theorem freePort_addressesSound {s : State} (h : AddressesSound s) : AddressesSound (freePort s) := by
  rw [addressesSound_iff] at h ⊢
  exact ⟨h.1, h.2.1, freePort_sound h.2.2⟩

theorem assertReset_addressesSound {s : State} (h : AddressesSound s) : AddressesSound (assertReset s) := by
  refine forwardWaiting_addressesSound ?_
  rw [addressesSound_iff]
  refine ⟨?_, basesSound_reset, ?_, fun _ _ _ h => nomatch h⟩
  · simpa [resetBlocks] using abandonAccess_storeWithin h
  · rw [addressesSound_iff] at h
    simpa [resetBlocks] using h.2.2.1

theorem setupReadCompletes_addressesSound {s : State} (h : AddressesSound s) : AddressesSound (setupReadCompletes s) := by
  unfold setupReadCompletes
  split
  · next q d hp =>
    have hf := freePort_addressesSound h
    refine forwardWaiting_addressesSound ?_
    rw [addressesSound_iff] at hf ⊢
    obtain ⟨hm, hu, hs⟩ := hf
    exact ⟨by simpa using hm, completeSetupRead_setup_keeps takeFields_basesSound q _ hu,
      (completeSetupRead_follows q _).sound hs⟩
  all_goals exact h

theorem reloadReadCompletes_addressesSound {s : State} (h : AddressesSound s) :
    AddressesSound (reloadReadCompletes s) := by
  unfold reloadReadCompletes
  split
  · exact forwardWaiting_addressesSound
      (addressesSound_of_follows (by simp) (by simp) (completeTableRead_follows _ _ _ _) (freePort_addressesSound h))
  all_goals exact h

theorem reportWriteCompletes_addressesSound {s : State} (h : AddressesSound s) :
    AddressesSound (reportWriteCompletes s) := by
  unfold reportWriteCompletes
  split
  · next w cells d hp =>
    have written : AddressesSound ((freePort s).withStore (writeCells s.store cells)) := by
      rw [addressesSound_iff] at h ⊢
      obtain ⟨hm, hu, hs⟩ := h
      exact ⟨hm.writeCells (hs.2 w cells d hp), hu, freePort_sound hs⟩
    refine forwardWaiting_addressesSound ?_
    unfold reportWriteDone
    dsimp only
    split
    · exact addressesSound_of_follows (by simp) (by simp) (requestPublication_follows _) written
    · exact addressesSound_of_follows (by simp) (by simp) (afterReportWrite_follows _ _) written
  all_goals exact h

theorem exec_keeps_addressesSound {c : Instr} {s s' : State} (hc : exec c s = .next s') (h : AddressesSound s) :
    AddressesSound s' := by
  have kept : ∀ {t : State}, t.store = s.store → t.setup = s.setup → t.port = s.port → AddressesSound t :=
    fun hm hu hp => addressesSound_of_eq hm hu hp h
  rcases exec_next hc with ⟨t, -, rfl, ht⟩ | ⟨rfl, -⟩ | ⟨b, rfl, -⟩ | rfl | rfl | rfl | ⟨d, rfl⟩ | rfl | rfl | rfl |
    ⟨k, rfl⟩ | rfl | rfl | rfl | rfl
  · refine arrive_addressesSound ?_ h
    rcases ht with ht | ⟨ref, o, ht⟩
    · exact ht
    · rw [addressesSound_iff] at h
      exact ht ▸ itemAddress_aligned h.2.1 ref o
  · exact assertReset_addressesSound h
  · unfold releaseReset
    split
    · exact h
    · exact h
  · exact setupReadCompletes_addressesSound h
  · exact reloadReadCompletes_addressesSound h
  · exact issueOwnAccess_addressesSound h
  · exact kept (by simp) (by simp) (by simp)
  · exact kept (by simp) (by simp) (by simp)
  · exact kept (by simp) (by simp) (by simp)
  · exact kept (by simp) (by simp) (by simp)
  · exact kept (by simp) (by simp) (by simp)
  · exact kept (by simp) (by simp) (by simp)
  · exact kept (by simp) (by simp) (by simp)
  · exact addressesSound_of_follows (by simp) (by simp) (selectRecord_follows s) h
  · exact reportWriteCompletes_addressesSound h

theorem step_keeps_addressesSound {s s' : State} (hs : step s = .next s') (h : AddressesSound s) :
    AddressesSound s' := by
  rcases step_next hs with ⟨-, rfl⟩ | ⟨c, rest, -, hc⟩
  · unfold tick takeDueTimeouts
    split
    · exact h
    · exact addressesSound_of_eq (by simp) (by simp) (by simp) h
  · exact exec_keeps_addressesSound hc (addressesSound_of_eq rfl rfl rfl h)

/-- Every write of the model keeps the canonical form, so every step does. -/
theorem step_keeps_storeCanonical {s s' : State} (hs : step s = .next s') (h : StoreCanonical s) : StoreCanonical s' := by
  refine step_keeps (P := StoreCanonical) ?pending (forwardWord_keeps ?pass ?fault ?setup ?table ?picture) ?returned
    ?waiting ?reset ?release ?setupRead ?tableRead ?report ?issue ?edge ?stop ?cue ?division ?cells ?verify ?timeOut
    ?select ?tick h hs
  case pass => exact fun a w s _ h => wf_writeLanes h _ _ _
  case picture =>
    intro b a o w s _ _ h
    obtain ⟨v, hv⟩ := pictureWord_store b a o w s
    exact (congrArg Memory.wf hv).mpr (wf_writeWord h a v)
  case reset =>
    intro s h
    have : Memory.wf (abandonAccess s).store := by
      unfold abandonAccess
      split
      · exact wf_writeCells h _
      all_goals exact h
    simpa [StoreCanonical, resetBlocks] using this
  case release => intro b s h; unfold releaseReset; split <;> exact h
  case report =>
    intro w cells d s _ h
    have := wf_writeCells h cells
    unfold reportWriteDone
    split <;> simpa [StoreCanonical] using this
  case tick => intro s h; unfold tick takeDueTimeouts; split <;> simpa [StoreCanonical] using h
  all_goals intros; simpa [StoreCanonical]

/-- Settles O53: writes are canonical and go to words of the store at aligned addresses, since every transaction and every
base is aligned. -/
theorem stepsKeepTheStore : Obligations.StepsKeepTheStore :=
  fun _ _ hs => ⟨step_keeps_storeCanonical hs, step_keeps_addressesSound hs⟩

end Sys2Proof.Machine
end

section
/-! Transactions and the port: commands of the store bus as arrivals, transactions under RST, and bursts that pass
(R1, R4, R5, R6, R21). -/

namespace Sys2Proof.Machine

/-! ## Commands of the store bus -/

/-- Every command of the store bus is the arrival of its transaction (assumption 20). -/
theorem exec_busTransaction {c : Instr} {x : Transaction} {s : State} (hw : c.wellFormed = true)
    (hb : busTransaction s c = some x) : exec c s = .next (arrive x s) := by
  cases c with
  | passedTransaction t =>
    obtain rfl := Option.some.inj hb
    exact if_pos hw
  | rstAssert | rstRelease | powerLoss | setupReadComplete | reloadReadComplete | ownAccessIssue | perfEdge
  | stopLimitExpiry | cuePulseEnd | divisionComplete | cellWriteComplete | profileVerify | programTimeout
  | recordSelect | reportWriteComplete => cases hb
  | _ => cases hb; rfl

/-- A well-formed transaction is presented. -/
theorem exec_passedTransaction {x : Transaction} (hw : x.wellFormed = true) (s : State) :
    exec (.passedTransaction x) s = .next (arrive x s) := exec_busTransaction hw rfl

/-- Settles O1: `step` matches on the queue. -/
theorem stepRunsFrontCommand : Obligations.StepRunsFrontCommand := by
  intro c rest s h
  simp [step, h]

/-- Settles O3: an arrival completes by `exec_busTransaction`, and every event is one `.next`. -/
theorem wellFormedCommandsComplete : Obligations.WellFormedCommandsComplete := by
  refine ⟨fun c s hw => ?_, fun x s hx => by simp [exec, execPassedTransaction, hx]⟩
  cases hb : busTransaction s c with
  | some x => exact ⟨_, exec_busTransaction hw hb⟩
  | none =>
    cases c with
    | rstAssert | rstRelease | powerLoss | setupReadComplete | reloadReadComplete | ownAccessIssue | perfEdge
    | stopLimitExpiry | cuePulseEnd | divisionComplete | cellWriteComplete | profileVerify | programTimeout
    | recordSelect | reportWriteComplete => exact ⟨_, rfl⟩
    | _ => cases hb

/-! ## Under RST -/

/-- R21: under RST the words of a burst pass, and nothing else changes. -/
theorem forwardWords_underReset {s : State} (hr : s.resetAsserted = true) (m : Master) (a : Nat) (ws : List WriteWord) :
    forwardWords m a ws s = s.withStore (passedStore s.store a ws) := by
  induction ws generalizing a s with
  | nil => rfl
  | cons w ws ih =>
    have word : forwardWord m a w s =
        s.withStore (if inStore a then writeLanes s.store a w.data w.lanes else s.store) := by
      unfold forwardWord
      split
      · simp [passWord]
      · rfl
    rw [forwardWords, word, ih (by simpa using hr)]
    rfl

theorem forwardTransaction_underReset {s : State} (hr : s.resetAsserted = true) (x : Transaction) :
    forwardTransaction x s =
      match x.body with
      | .write ws => s.withStore (passedStore s.store x.address ws)
      | .read n => s.withReturned (s.returned ++ [{ master := x.master, words := readWords s.store x.address n }]) := by
  unfold forwardTransaction
  cases x.body with
  | write ws => exact forwardWords_underReset hr _ _ _
  | read n => rfl

/-- Under RST transactions change what memory holds and what was returned, and nothing else. -/
theorem forwardedInOrder_underReset {s : State} (hr : s.resetAsserted = true) (ts : List Transaction) :
    ∃ m r, forwardedInOrder ts s = (s.withStore m).withReturned r := by
  induction ts generalizing s with
  | nil => exact ⟨s.store, s.returned, rfl⟩
  | cons x ts ih =>
    rw [forwardedInOrder_cons, forwardTransaction_underReset hr]
    split
    · obtain ⟨m, r, h⟩ := ih (s := s.withStore _) (by simpa using hr)
      exact ⟨m, r, h⟩
    · obtain ⟨m, r, h⟩ := ih (s := s.withReturned _) (by simpa using hr)
      exact ⟨m, r, h⟩

/-- Settles O6, by the arrival that each command of the store bus is. -/
theorem busCommandsWaitOrPassUnderReset : Obligations.BusCommandsWaitOrPassUnderReset := by
  intro c x s hw hb
  rw [exec_busTransaction hw hb]
  have open' : s.port.inProgress = none → arrive x s = forwardTransaction x s := fun h => by simp [arrive, h]
  refine ⟨fun hp => ?_, fun hp => by rw [open' hp], fun hr hp => ?_⟩
  · simp only [arrive, Option.isSome_iff_ne_none.2 hp, if_true]
    rfl
  · rw [open' hp, forwardTransaction_underReset hr]
    cases x.body <;> rfl

/-! ## Bursts that pass -/

theorem passWord_lanes (a : Nat) (w : WriteWord) (s : State) :
    passWord a w s = s.withStore (writeLanes s.store a w.data w.lanes) := rfl

/-- Where the windows lie does not depend on what memory holds (R3). -/
theorem classify_withStore (s : State) (m : List Host.Cell) (a : Nat) : classify (s.withStore m) a = classify s a := rfl

theorem captureSetup_head (w : Word) (s : State) : captureSetup 3 w s = s := by
  unfold captureSetup
  exact if_pos (by decide)

/-- A full word in no window that looks at it passes (R4). -/
theorem forwardFull_unseen {m : Master} {a : Nat} {w : Word} {s : State}
    (h : classify s a = .plain ∨ classify s a = .ring ∨ classify s a = .setup 3
      ∨ ∃ b o, classify s a = .buffer b o ∧ examinesPicture m w s = false) :
    forwardFull m a w s = passWord a ⟨w, fullLanes⟩ s := by
  unfold forwardFull
  rcases h with h | h | h | ⟨b, o, h, he⟩ <;> rw [h] <;> dsimp only
  · exact captureSetup_head _ _
  · simp [he]

/-- A word with a lane disabled passes without a fault outside the snooped windows, and at the head word (R5). -/
theorem forwardPartial_unseen {a : Nat} {w : WriteWord} {s : State}
    (h : classify s a = .plain ∨ classify s a = .ring ∨ classify s a = .setup 3 ∨ ∃ b o, classify s a = .buffer b o) :
    forwardPartial a w s = passWord a w s := by
  have quiet : (classify s a).faultsPartial = false := by
    rcases h with h | h | h | ⟨b, o, h⟩ <;> rw [h] <;> rfl
  simp [forwardPartial, quiet]

theorem forwardWord_passesUnseen {m : Master} {a : Nat} {w : WriteWord} {s : State} (hr : s.resetAsserted = false)
    (h : PassesUnseen m a w s) :
    forwardWord m a w s = s.withStore (if inStore a then writeLanes s.store a w.data w.lanes else s.store) := by
  unfold forwardWord
  split
  · next hs =>
    rw [if_neg (by simp [hr])]
    rcases h with h | h
    · simp [hs] at h
    · split
      · next hl =>
        refine (forwardFull_unseen (m := m) (w := w.data) ?_).trans (by rw [passWord_lanes, hl])
        rcases h with h | h | h | ⟨b, o, h, hu⟩
        · exact .inl h
        · exact .inr (.inl h)
        · exact .inr (.inr (.inl h))
        · refine .inr (.inr (.inr ⟨b, o, h, ?_⟩))
          simp only [examinesPicture, Bool.and_eq_false_iff, decide_eq_false_iff_not]
          tauto
      · refine forwardPartial_unseen ?_
        rcases h with h | h | h | ⟨b, o, h, -⟩
        · exact .inl h
        · exact .inr (.inl h)
        · exact .inr (.inr (.inl h))
        · exact .inr (.inr (.inr ⟨b, o, h⟩))
  · rfl

theorem PassesUnseen.withStore {m : Master} {a : Nat} {w : WriteWord} {s : State} (h : PassesUnseen m a w s)
    (c : List Host.Cell) : PassesUnseen m a w (s.withStore c) := h

theorem BurstPasses.withStore {m : Master} {a : Nat} {ws : List WriteWord} {s : State} (h : BurstPasses m a ws s)
    (c : List Host.Cell) : BurstPasses m a ws (s.withStore c) := by
  induction ws generalizing a with
  | nil => trivial
  | cons w ws ih => exact ⟨h.1.withStore c, ih h.2⟩

theorem forwardWords_burstPasses {m : Master} {a : Nat} {ws : List WriteWord} {s : State} (hr : s.resetAsserted = false)
    (h : BurstPasses m a ws s) : forwardWords m a ws s = s.withStore (passedStore s.store a ws) := by
  induction ws generalizing a s with
  | nil => rfl
  | cons w ws ih =>
    obtain ⟨hw, hws⟩ := h
    rw [forwardWords, forwardWord_passesUnseen hr hw, ih (by simpa using hr) (hws.withStore _)]
    rfl

theorem transaction_wellFormed {m : Master} {a : Nat} {b : TransferBody} (ha : a % 4 = 0) (hs : a < Config.storeBytes)
    (h1 : 1 ≤ b.length) (h16 : b.length ≤ 16) : Transaction.wellFormed { master := m, address := a, body := b } = true := by
  simp [Transaction.wellFormed, ha, hs, h1, h16]

/-- Settles O4: a read returns `readWords`, and a burst of unseen words only writes memory. -/
theorem passedTransactionsPass : Obligations.PassedTransactionsPass := by
  intro m a s hp ha hs
  refine ⟨fun n h1 h16 => ?_, fun ws h1 h16 hb => ?_⟩
  · rw [exec_passedTransaction (transaction_wellFormed (b := .read n) ha hs h1 h16), arrive_open hp]
    simp only [forwardTransaction, readWords, inStore, decide_eq_true_eq]
    rfl
  · rw [exec_passedTransaction (transaction_wellFormed (b := .write ws) ha hs h1 h16), arrive_open hp]
    simp only [forwardTransaction, forwardWords_burstPasses hp.1 hb]
    rfl

/-! ## Writes of CONTROL, OUTPUT and AUX -/

theorem forwardWords_store {m : Master} (hm : m ≠ .scan) (a : Nat) (ws : List WriteWord) (s : State) :
    (forwardWords m a ws s).store = passedStore s.store a ws := by
  induction ws generalizing a s with
  | nil => rfl
  | cons w ws ih =>
    obtain ⟨v, hv, hd⟩ := forwardWord_store m a w s
    rw [forwardWords, ih, hv, hd hm]
    rfl

theorem rising_passed {m : List Host.Cell} (h : Memory.rising m) (a : Nat) (w : WriteWord) :
    Memory.rising (if inStore a then writeLanes m a w.data w.lanes else m) := by
  split
  · exact rising_writeLanes h _ _ _
  · exact h

/-- A burst leaves every byte outside its words in the store as it was. -/
theorem readByte_passedStore_outside {m : List Host.Cell} (h : Memory.rising m) {a : Nat} (ha : a % 4 = 0)
    (ws : List WriteWord) {b : Nat} (hb : b < a ∨ a + 4 * ws.length ≤ b ∨ Config.storeBytes ≤ b) :
    readByte (passedStore m a ws) b = readByte m b := by
  induction ws generalizing a m with
  | nil => rfl
  | cons w ws ih =>
    rw [List.length_cons] at hb
    rw [passedStore, ih (rising_passed h a w) (by omega) (by omega)]
    split
    · next hs =>
      have hs : a < Config.storeBytes := by simpa [inStore] using hs
      unfold Config.storeBytes at hs hb
      rw [readByte_writeLanes h, if_neg (by omega)]
    · rfl

/-- A burst writes the enabled lanes of each of its words in the store. -/
theorem readByte_passedStore_inside {m : List Host.Cell} (h : Memory.rising m) {a : Nat} (ha : a % 4 = 0)
    {ws : List WriteWord} {i k : Nat} {w : WriteWord} (hw : ws[i]? = some w) (hk : k < 4)
    (hs : a + 4 * i < Config.storeBytes) :
    readByte (passedStore m a ws) (a + 4 * i + k) =
      if w.lanes.getLsbD k then laneByte w.data k else readByte m (a + 4 * i + k) := by
  induction ws generalizing a i m with
  | nil => simp at hw
  | cons v ws ih =>
    rw [passedStore]
    cases i with
    | zero =>
      obtain rfl : v = w := by simpa using hw
      have hin : inStore a = true := by simpa [inStore] using hs
      rw [readByte_passedStore_outside (rising_passed h a v) (by omega) ws (by omega), if_pos hin,
        readByte_writeLanes h]
      simp [hk]
    | succ i =>
      have e : a + 4 * (i + 1) + k = a + 4 + 4 * i + k := by omega
      rw [e, ih (rising_passed h a v) (by omega) (by simpa using hw) (by omega)]
      congr 1
      split
      · rw [readByte_writeLanes h, if_neg (by omega)]
      · rfl

/-- Settles O5: no window alters a word that SCAN did not write, so memory takes the burst as it stands. -/
theorem controlWritesReachMemory : Obligations.ControlWritesReachMemory := by
  intro m a ws s hm hp ha hs h1 h16 hc
  have hstore : (arrive { master := m, address := a, body := .write ws } s).store = passedStore s.store a ws := by
    simpa [arrive, hp, forwardTransaction] using forwardWords_store hm a ws s
  refine ⟨_, exec_passedTransaction (transaction_wellFormed (b := .write ws) ha hs h1 h16) s, hstore, ?_, ?_⟩
  · intro i k w hw hk hi
    rw [hstore, readByte_passedStore_inside hc.1 ha hw hk hi]
    rfl
  · intro b hb
    rw [hstore, readByte_passedStore_outside hc.1 ha ws hb]

/-! ## The arbiter and the release of RST -/

/-- Settles O34, by the cases of `issueOwnAccess`. -/
theorem arbiterIssuesReloadBeforeReport : Obligations.ArbiterIssuesReloadBeforeReport := by
  intro s
  refine ⟨fun hp hw => ⟨fun r hr => ?_, fun hr => ⟨fun w hq => ?_, fun hq => ?_⟩⟩, fun h => ?_⟩
  · simp only [exec, execOwnAccessIssue, issueOwnAccess, hp, hw, hr]
    rfl
  · simp only [exec, execOwnAccessIssue, issueOwnAccess, hp, hw, hr, hq]
    rfl
  · simp [exec, execOwnAccessIssue, issueOwnAccess, hp, hw, hr, hq]
  · have held : s.port.inProgress.isSome ∨ s.port.waiting ≠ [] := h.imp_left Option.isSome_iff_ne_none.2
    simp only [exec, execOwnAccessIssue, issueOwnAccess, if_pos held]

/-- Settles O8, by the two cases of `releaseReset`. -/
theorem releaseRequestsTheSetupRead : Obligations.ReleaseRequestsTheSetupRead := by
  intro b s
  refine ⟨fun h => ?_, fun h => ?_⟩ <;> simp [exec, execRstRelease, releaseReset, h]

end Sys2Proof.Machine
end

section
/-! RST: what its assertion leaves, what every command but the release leaves while it is asserted, and the invariants after
it (R16, R21, R181, R194). -/

namespace Sys2Proof.Machine

/-! ## The assertion of RST -/

/-- `s` with every block at its reset values and no transaction waiting. -/
def heldAs (s : State) : State :=
  { State.held with
    setupSel := s.setupSel, profiles := s.profiles, store := s.store, returned := s.returned
    freeCount := s.freeCount, pending := s.pending }

/-- The transactions that waited change what memory holds and what was returned. -/
theorem assertReset_eq (s : State) :
    ∃ m r, assertReset s =
      ((heldAs (abandonOperation (abandonAccess s))).withStore m).withReturned r := by
  rw [assertReset, forwardWaiting_eq]
  exact forwardedInOrder_underReset rfl _

/-- With no transaction waiting, RST leaves what the abandoned access and the abandoned operation leave. -/
theorem assertReset_nothingWaiting {s : State} (h : s.port.waiting = []) :
    assertReset s = heldAs (abandonOperation (abandonAccess s)) := by
  rw [assertReset, forwardWaiting_nil (by simpa [resetBlocks] using h)]
  simp only [resetBlocks, heldAs, abandonOperation_frame, abandonAccess_frame, h]
  rfl

theorem abandonAccess_profiles (s : State) : (abandonAccess s).profiles = s.profiles := by simp

/-- R181: after an abandoned operation none is in progress, and only its own profile's values may have changed. -/
theorem abandonOperation_profiles (s : State) :
    (abandonOperation s).profiles.operation = none
      ∧ ∀ n : Fin 32, (abandonOperation s).profiles.profiles[n.val].mark = s.profiles.profiles[n.val].mark
        ∧ ((∀ op, s.profiles.operation = some op → op.number ≠ n) →
            (abandonOperation s).profiles.profiles[n.val] = s.profiles.profiles[n.val]) := by
  unfold abandonOperation
  split
  · next op ho =>
    simp only [State.withFreeCount_profiles, State.withProfiles_profiles, abandonProgramming, ho,
      ProfileStore.setProfile, Option.some.injEq, forall_eq', true_and]
    refine fun n => ⟨?_, fun hn => ?_⟩
    · rw [Vector.getElem_set]
      split
      · next he => simp [he]
      · rfl
    · exact Vector.getElem_set_ne _ _ fun h => hn (Fin.ext h)
  · next ho => exact ⟨ho, fun n => ⟨rfl, fun _ => rfl⟩⟩

/-- R21, R194: an abandoned report write leaves a number of its words in memory, in address order. -/
theorem abandonAccess_store (s : State) :
    ((∀ w cells d, s.port.inProgress ≠ some (.report w cells d)) → (abandonAccess s).store = s.store)
      ∧ ∀ w cells d, s.port.inProgress = some (.report w cells d) →
          ∃ k, (abandonAccess s).store = writeCells s.store (cells.take k) := by
  unfold abandonAccess
  split
  · next w cells d hp => exact ⟨fun h => absurd hp (h w cells d), fun w' cells' d' h => ⟨_, by simp_all; rfl⟩⟩
  · next hp => exact ⟨fun _ => rfl, fun w cells d h => by simp [hp] at h⟩
  · next hp => exact ⟨fun _ => rfl, fun w cells d h => by simp [hp] at h⟩

/-- Settles O7: RST abandons, resets, and lets what waited pass. -/
theorem resetHoldsEveryBlock : Obligations.ResetHoldsEveryBlock := by
  intro s
  obtain ⟨m, r, he⟩ := assertReset_eq s
  have hp := abandonOperation_profiles (abandonAccess s)
  rw [abandonAccess_profiles] at hp
  refine ⟨assertReset s, rfl, rfl, ?_, ?_, ?_, fun hw => ?_⟩
  · rw [he]
    simp only [heldAs, abandonOperation_frame, abandonAccess_frame]
    rfl
  · rw [he]
    exact hp.1
  · rw [he]
    exact hp.2
  · rw [assertReset_nothingWaiting hw]
    refine ⟨by simp [heldAs], ?_⟩
    simpa [heldAs] using abandonAccess_store s

/-! ## While RST is asserted -/

theorem heldInReset_iff (s : State) : HeldInReset s ↔ s.profiles.operation = none ∧ s = heldAs s := by
  unfold HeldInReset
  constructor
  · rintro ⟨-, hw, ho, he⟩
    refine ⟨ho, he.symm.trans ?_⟩
    simp only [resetBlocks, hw]
    rfl
  · rintro ⟨ho, he⟩
    have hw : s.port.waiting = [] := by rw [he]; rfl
    refine ⟨by rw [he]; rfl, hw, ho, Eq.trans ?_ he.symm⟩
    simp only [resetBlocks, hw]
    rfl

/-- What memory holds and what was returned are no reset values. -/
theorem HeldInReset.forwarded {s : State} (h : HeldInReset s) (m : List Host.Cell) (r : List ReadReturn) :
    HeldInReset ((s.withStore m).withReturned r) := by
  rw [heldInReset_iff] at h ⊢
  obtain ⟨ho, he⟩ := h
  refine ⟨ho, ?_⟩
  conv_lhs => rw [he]
  rfl

section
variable {s : State}

theorem HeldInReset.port (h : HeldInReset s) : s.port = MemoryPort.reset := by rw [((heldInReset_iff s).1 h).2]; rfl

theorem HeldInReset.footage (h : HeldInReset s) : s.footage = Footage.reset := by rw [((heldInReset_iff s).1 h).2]; rfl

theorem HeldInReset.divider (h : HeldInReset s) : s.divider = Divider.reset := by rw [((heldInReset_iff s).1 h).2]; rfl

theorem HeldInReset.ring (h : HeldInReset s) : s.ring = ReportRing.reset := by rw [((heldInReset_iff s).1 h).2]; rfl

theorem HeldInReset.operation (h : HeldInReset s) : s.profiles.operation = none := ((heldInReset_iff s).1 h).1

theorem HeldInReset.arrive (h : HeldInReset s) (t : Transaction) : HeldInReset (arrive t s) := by
  have hp : s.port.inProgress = none := by rw [h.port]; rfl
  obtain ⟨m, r, he⟩ := forwardedInOrder_underReset h.1 [t]
  rw [forwardedInOrder_cons, forwardedInOrder_nil] at he
  simp only [Machine.arrive, hp, Option.isSome_none, Bool.false_eq_true, if_false, he]
  exact h.forwarded m r

theorem HeldInReset.assertReset (h : HeldInReset s) : assertReset s = s := by
  have ha : abandonAccess s = s := by simp [abandonAccess, h.port, MemoryPort.reset]
  have ho : abandonOperation s = s := by simp [abandonOperation, h.operation]
  obtain ⟨-, hw, -, hb⟩ := h
  rw [Machine.assertReset, ha, ho, hb, forwardWaiting_nil hw]

/-- Nothing is under way, so a completion, a time-out or a selection finds no occasion (assumption 9). -/
theorem HeldInReset.events (h : HeldInReset s) :
    setupReadCompletes s = s ∧ reloadReadCompletes s = s ∧ issueOwnAccess s = s ∧ (∀ d, perforationEdge d s = s)
      ∧ expireIfDue s = s ∧ endCueIfDue s = s ∧ divisionCompletes s = s ∧ (∀ k, completeCellWrite k s = s)
      ∧ completeVerify s = s ∧ timeOutIfDue s = s ∧ selectRecord s = s ∧ reportWriteCompletes s = s := by
  have hr := h.1
  have hp := h.port
  have hf := h.footage
  have ho := h.operation
  refine ⟨?_, ?_, ?_, fun d => ?_, ?_, ?_, ?_, fun k => ?_, ?_, ?_, ?_, ?_⟩
  · simp [setupReadCompletes, hp, MemoryPort.reset]
  · simp [reloadReadCompletes, hp, MemoryPort.reset]
  · simp [issueOwnAccess, hp, MemoryPort.reset]
  · simp [perforationEdge, hr]
  · simp [expireIfDue, stopLimitDue, hf, Footage.reset]
  · simp [endCueIfDue, cueDue, hf, Footage.reset]
  · simp [divisionCompletes, h.divider, Divider.reset]
  · simp [completeCellWrite, ho]
  · simp [completeVerify, ho]
  · simp [timeOutIfDue, ho]
  · simp [selectRecord, h.ring, ReportRing.reset]
  · simp [reportWriteCompletes, hp, MemoryPort.reset]

end

/-- Settles O59: transactions pass, a second assertion finds every block at reset, and no other command has an occasion. -/
theorem resetIsKeptUntilRelease : Obligations.ResetIsKeptUntilRelease := by
  intro c s s' hc h he
  obtain ⟨h1, h2, h3, h4, h5, h6, h7, h8, h9, h10, h11, h12⟩ := h.events
  rcases exec_next he with ⟨t, -, rfl, -⟩ | ⟨rfl, -⟩ | ⟨b, -, hb⟩ | rfl | rfl | rfl | ⟨d, rfl⟩ | rfl | rfl | rfl |
    ⟨k, rfl⟩ | rfl | rfl | rfl | rfl
  · exact h.arrive t
  · rwa [h.assertReset]
  · exact absurd hb (hc b)
  · rwa [h1]
  · rwa [h2]
  · rwa [h3]
  · rwa [h4]
  · rwa [h5]
  · rwa [h6]
  · rwa [h7]
  · rwa [h8]
  · rwa [h9]
  · rwa [h10]
  · rwa [h11]
  · rwa [h12]

/-! ## The invariants after RST -/

theorem addressesSound_reset : AddressesSound State.reset :=
  (addressesSound_iff _).2 ⟨fun _ h => (nomatch h), basesSound_reset, fun _ h => (nomatch h), fun _ _ _ h => (nomatch h)⟩

theorem orderedListSound_reset : OrderedListSound State.reset := by
  refine ⟨.nil, fun _ h => (nomatch h), .nil, fun i => ?_⟩
  simp [State.reset, State.held, GradeList.reset]

theorem divisorsNonzero_reset : DivisorsNonzero State.reset :=
  ⟨fun _ h => (nomatch h), fun c _ h => by cases c <;> cases h⟩

theorem mixSound_reset : MixSound State.reset :=
  ⟨by decide, .inl rfl, fun _ h => (nomatch h), fun _ h => (nomatch h), fun _ h => (nomatch h), fun _ h => (nomatch h),
    fun _ h => (nomatch h)⟩

theorem ringSound_reset : RingSound State.reset :=
  ⟨by decide, by decide, by decide, fun h => (nomatch h), fun _ h => (nomatch h), fun _ _ h => (nomatch h),
    fun h => (nomatch h)⟩

/-- Settles O60: at reset the lists are empty, nothing is under way and the values are those of R16. -/
theorem resetMeetsTheInvariants : Obligations.ResetMeetsTheInvariants := by
  refine ⟨⟨.nil, fun _ h => (nomatch h)⟩, addressesSound_reset, orderedListSound_reset, resetBlocks_setupInRange .reset,
    ⟨by decide, by decide⟩, fun h => (nomatch h), divisorsNonzero_reset, mixSound_reset,
    ⟨fun _ h => (nomatch h), fun _ h => (nomatch h), fun h => (nomatch h)⟩, ⟨by decide, by decide⟩, ringSound_reset, rfl,
    fun h => absurd rfl h, ⟨by decide, .nil⟩, fun _ h => (nomatch h), (heldInReset_iff _).2 ⟨rfl, rfl⟩⟩

end Sys2Proof.Machine
end

section
/-! Captured setup words: what each word does to the values in use and to the part (R8, R9, R11, R13, R15, R20, R30,
R199). -/

namespace Sys2Proof.Machine

/-! ## A captured word -/

/-- A full write of a setup word other than words 0 and 3, outside UNSET: its fields are taken. -/
theorem exec_setupWrite_taken {s : State} (hp : PortOpen s) (hu : SetupTaken s) (m : Master) {k : Fin 64}
    (hk : setupWordAt k ≠ .head) (h0 : setupWordAt k ≠ .control) (w : Word) :
    exec (.setupWrite m k w) s = .next (takeWord (setupWordAt k) w (capturedAt k w s)) :=
  congrArg Host.Outcome.next (arriveSetupWord_taken hp hu m hk h0 w)

/-- R8, R18: in UNSET the shadow word is replaced, and word 0 is examined. -/
theorem arriveSetupWord_unset {s : State} (hp : PortOpen s) (hu : s.partState = .unset) (m : Master) {k : Fin 64}
    (hk : setupWordAt k ≠ .head) (w : Word) :
    arriveSetupWord m k w s = captureInUnset (setupWordAt k) w (capturedAt k w s) := by
  rw [arriveSetupWord_open hp, captureSetup_unset (by simpa [writtenAt] using hu) hk]
  rfl

/-- A full write of setup word 0 with another revision, outside UNSET (R19). -/
theorem arriveSetupWord_otherRevision {s : State} (hp : PortOpen s) (hu : SetupTaken s) (m : Master) {w : Word}
    (hr : revisionOf w ≠ 1) : arriveSetupWord m 0 w s = enterUnset (capturedAt 0 w s) := by
  rw [arriveSetupWord_open hp, captureSetup_taken (by simpa [SetupTaken, writtenAt] using hu) (by decide)]
  exact if_pos ⟨by decide, hr⟩

theorem setupWordAt_noField {k : Fin 64} (hk : 27 ≤ k.val) : setupWordAt k = .noField :=
  List.getD_eq_default _ _ hk

theorem setupWordAt_eq_control {k : Fin 64} : setupWordAt k = .control ↔ k = 0 := by
  revert k
  decide

theorem setupWordAt_eq_head {k : Fin 64} : setupWordAt k = .head ↔ k = 3 := by
  revert k
  decide

@[simp] theorem capturedAt_setup (k : Fin 64) (w : Word) (s : State) : (capturedAt k w s).setup = s.setup := rfl

@[simp] theorem capturedAt_port (k : Fin 64) (w : Word) (s : State) : (capturedAt k w s).port = s.port := rfl

/-! ## Rows of one setup word, and words without an effect beyond a value -/

/-- R8: the words whose fields are values in use and nothing more. -/
def SetupWord.onlyValues : SetupWord → Bool
  | .cueAndProgram | .substitution | .defaults | .scanEnables | .thresholds | .speedWindow => true
  | .stagingBase | .stagingScaleRG | .stagingScaleB => true
  | _ => false

theorem takeWord_onlyValues {k : SetupWord} (hk : k.onlyValues = true) (w : Word) (s : State) :
    takeWord k w s = s.withSetup (takeFields k w s.setup) := by
  cases k with
  | cueAndProgram | substitution | defaults | scanEnables | thresholds | speedWindow | stagingBase | stagingScaleRG
  | stagingScaleB => rfl
  | _ => cases hk

theorem exec_onlyValues {s : State} (hp : PortOpen s) (hu : SetupTaken s) (m : Master) {k : Fin 64}
    (hk : (setupWordAt k).onlyValues = true) (w : Word) :
    exec (.setupWrite m k w) s = .next ((capturedAt k w s).withSetup (takeFields (setupWordAt k) w s.setup)) := by
  rw [exec_setupWrite_taken hp hu m (fun h => by simp [h, SetupWord.onlyValues] at hk)
    (fun h => by simp [h, SetupWord.onlyValues] at hk), takeWord_onlyValues hk, capturedAt_setup]

/-- Settles O24: words 19 to 23 hold values alone. -/
theorem frameSetupWordsTakeTheirFields : Obligations.FrameSetupWordsTakeTheirFields := by
  intro m w s hp hu
  have value : ∀ k : Fin 64, (setupWordAt k).onlyValues = true → _ := fun k hk => exec_onlyValues hp hu m hk w
  exact ⟨(value 19 rfl).trans rfl, (value 20 rfl).trans rfl, (value 21 rfl).trans rfl, (value 22 rfl).trans rfl,
    (value 23 rfl).trans rfl⟩

/-- Settles O25: each row is SETUP_WRITE at its offset, and each word takes what `takeWord` says of it. -/
theorem immediateSetupWordsTakeTheirFields : Obligations.ImmediateSetupWordsTakeTheirFields := by
  refine ⟨fun m w s => ⟨rfl, rfl, fun _ => rfl, fun _ => rfl, fun _ => rfl, rfl, rfl,
    fun args => ⟨rfl, rfl, rfl, rfl, fun _ => rfl⟩⟩, fun m w s hp => ⟨fun hu => ?_, fun hu k h0 h3 => ?_, ?_⟩⟩
  · have value : ∀ k : Fin 64, (setupWordAt k).onlyValues = true → _ := fun k hk => exec_onlyValues hp hu m hk w
    refine ⟨(exec_setupWrite_taken hp hu m (by decide) (by decide) w).trans rfl, (value 17 rfl).trans rfl,
      (value 24 rfl).trans rfl, (value 25 rfl).trans rfl, (value 26 rfl).trans rfl, fun hc => ?_, fun k hk => ?_⟩
    · rw [exec_setupWrite_taken hp hu m (by decide) (by decide) w]
      have hc : commandCodeOf w = 0 := hc
      change Host.Outcome.next (issueCommand w _) = _
      simp only [issueCommand, hc]
    · have hn := setupWordAt_noField hk
      rw [exec_setupWrite_taken hp hu m (by simp [hn]) (by simp [hn]) w, hn]
      rfl
  · have hc : setupWordAt k ≠ .control := fun h => h0 (setupWordAt_eq_control.1 h)
    have hh : setupWordAt k ≠ .head := fun h => h3 (setupWordAt_eq_head.1 h)
    change Host.Outcome.next (arriveSetupWord m k w s) = _
    rw [arriveSetupWord_unset hp hu m hh, captureInUnset, if_neg (fun h => hc h.1)]
  · change Host.Outcome.next (arriveSetupWord m 3 w s) = _
    rw [arriveSetupWord_open hp, captureSetup_head]
    rfl

/-! ## Legal word, ppf, unnamed codes -/

/-- Settles O17, by the two cases of `takeLegalWord`. -/
theorem legalWordTakenWholeOrRefused : Obligations.LegalWordTakenWholeOrRefused := by
  intro m w s hp hu
  have taken : exec (.legalWordWrite m w) s = .next (takeLegalWord w (capturedAt 18 w s)) :=
    exec_setupWrite_taken hp hu m (k := 18) (by decide) (by decide) w
  refine ⟨fun hl => ?_, fun hl => ?_⟩ <;> rw [taken]
  · have hr : legalRefused w = false := decide_eq_false (not_lt.2 hl)
    simp only [takeLegalWord, takeFields, hr]
    rfl
  · have hr : legalRefused w = true := decide_eq_true hl
    simp only [takeLegalWord, hr]
    rfl

/-- Settles O18: ppf and perf guard are clamped, and a change of ppf clears the phase. -/
theorem ppfChangeClearsThePhase : Obligations.PpfChangeClearsThePhase := by
  intro m w s hp hu p hq
  have taken : exec (.ppfChange m w) s = .next (takeWord .footage w (capturedAt 15 w s)) :=
    exec_setupWrite_taken hp hu m (k := 15) (by decide) (by decide) w
  have ppf : clampNat 1 4 (bits w 0 3) = p := hq.symm
  have guard : clampNat 0 1000 (bits w 16 10) = min 1000 (w.extractLsb' 16 10).toNat := Nat.zero_max _
  rw [taken]
  simp only [takeWord, takeFields, capturedAt_setup, ppf, guard, ite_not]
  by_cases h : p = s.setup.ppf
  · rw [if_pos h, if_pos h]
    rfl
  · rw [if_neg h, if_neg h]
    rfl

theorem unnamedCode_toNat (c : UnnamedCode) : c.toBits.toNat = 5 ∨ c.toBits.toNat = 6 ∨ c.toBits.toNat = 7 := by
  cases c <;> decide

/-- Settles O19: codes 5 to 7 reach the last case of `issueCommand`. -/
theorem unnamedCodeRaisesAFault : Obligations.UnnamedCodeRaisesAFault := by
  intro m code args s hp hu
  have taken : exec (.unnamedCommandCode m code args) s =
      .next (issueCommand (commandWord code.toBits args) (capturedAt 1 (commandWord code.toBits args) s)) :=
    exec_setupWrite_taken hp hu m (k := 1) (by decide) (by decide) _
  rw [taken]
  unfold issueCommand
  rw [commandCodeOf_commandWord]
  rcases unnamedCode_toNat code with h | h | h <;> rw [h] <;> rfl

/-! ## The control word -/

/-- R20: ENABLE taken as `e` moves STANDBY to ACTIVE, and ACTIVE to STANDBY with an open frame closed. -/
theorem enableChanged_eq (s : State) :
    enableChanged s =
      if s.partState = .standby ∧ s.setup.enable = true then s.withPartState .active
      else if s.partState = .active ∧ s.setup.enable = false then (closeFrame false s).withPartState .standby
      else s := by
  unfold enableChanged
  cases s.partState <;> cases s.setup.enable <;> rfl

/-- Settles O12: both rows are word 0, whose fields `takeWord` takes. -/
theorem controlWordMovesThePart : Obligations.ControlWordMovesThePart := by
  refine ⟨fun m low s => ⟨rfl, rfl⟩, fun m low s hp hu t ht => ?_⟩
  have taken : arriveSetupWord m 0 (controlWord low) s = t := by
    rw [arriveSetupWord_control hp hu m (revisionOf_controlWord low), ht]
    simp only [takeWord, takeFields, bit_controlWord low (by omega : 2 < 24), bit_controlWord low (by omega : 1 < 24),
      bit_controlWord low (by omega : 0 < 24), capturedAt_setup, ite_not, enableChanged_eq]
    by_cases ha : low.getLsbD 1 = s.setup.attnEnable <;> simp only [ha, if_true, if_false]
    · rfl
    · rfl
  exact ⟨congrArg Host.Outcome.next taken, congrArg Host.Outcome.next taken⟩

/-! ## Ring reset -/

/-- R193: a ring reset with the port free. -/
theorem resetRing_idle {s : State} (h : s.port.inProgress = none) :
    resetRing s =
      { s with
        port := { s.port with reportRequest := some .publication }
        ring := { s.ring with
          head := ⟨0, false⟩, consumer := ⟨0, false⟩, inFlight := false, publication := true, attn := false } } := by
  simp only [resetRing, withdrawReport, reportInProgress, h]
  rfl

/-- R13: a setup word of the Ring reset class resets the ring when the value in use changes. -/
theorem takeWord_ring {k : SetupWord} (hk : k = .ringBase ∨ k = .ringSize) (w : Word) {s : State}
    (hp : s.port.inProgress = none) :
    (takeFields k w s.setup = s.setup → takeWord k w s = s)
      ∧ (takeFields k w s.setup ≠ s.setup → takeWord k w s =
          { s with
            setup := takeFields k w s.setup
            port := { s.port with reportRequest := some .publication }
            ring := { s.ring with
              head := ⟨0, false⟩, consumer := ⟨0, false⟩, inFlight := false, publication := true, attn := false } }) := by
  have changed := resetRing_idle (s := s.withSetup (takeFields k w s.setup)) hp
  rcases hk with rfl | rfl
  · refine ⟨fun h => if_neg (not_not.2 (congrArg Setup.ringBase h)), fun h => (if_pos fun e => h ?_).trans changed⟩
    exact congrArg (fun x => { s.setup with ringBase := x }) e
  · refine ⟨fun h => if_neg (not_not.2 (congrArg Setup.ringSize h)), fun h => (if_pos fun e => h ?_).trans changed⟩
    exact congrArg (fun x => { s.setup with ringSize := x }) e

/-- Settles O16: a change of ring base or ring size is `resetRing`. -/
theorem ringWordResetsTheRing : Obligations.RingWordResetsTheRing := by
  intro m k w s hp hu u hk
  have fields : u = takeFields (setupWordAt (ringWordOffset k)) w s.setup := by cases k <;> exact hk
  have ring : setupWordAt (ringWordOffset k) = .ringBase ∨ setupWordAt (ringWordOffset k) = .ringSize := by
    cases k <;> decide
  have taken : exec (.ringReset m k w) s =
      .next (takeWord (setupWordAt (ringWordOffset k)) w (capturedAt (ringWordOffset k) w s)) :=
    exec_setupWrite_taken hp hu m (by cases k <;> decide) (by cases k <;> decide) w
  obtain ⟨same, changed⟩ := takeWord_ring ring w (s := capturedAt (ringWordOffset k) w s) hp.2
  rw [taken, fields]
  exact ⟨fun h => congrArg _ (same h), fun h => congrArg _ (changed h)⟩

/-! ## Restart -/

/-- R11, R143: a restart, but for what the close of an open frame does. -/
theorem restart_eq (s : State) :
    restart s =
      let c := closeFrame false s
      { c with
        detector := { c.detector with reference := none, recipValid := false }
        divider := s.divider.request .recip (16777216 + cellCount s.setup - 1) (cellCount s.setup) } := by
  simp [restart, requestRecip, requestDivision, discardReference, State.withDivider, State.withDetector]

/-- The fields that a word of the Restart class carries. -/
def restartField : RestartWord → SetupWord
  | .geometry => .geometry
  | .bufferBase b => .bufferBase b

theorem setupWordAt_restartOffset (k : RestartWord) : setupWordAt (restartOffset k) = restartField k := by
  cases k with
  | geometry => rfl
  | bufferBase b => revert b; decide

/-- R11: a setup word of the Restart class restarts the part when a value in use changes. -/
theorem takeWord_restart (k : RestartWord) (w : Word) (s : State) :
    (takeFields (restartField k) w s.setup = s.setup → takeWord (restartField k) w s = s)
      ∧ (takeFields (restartField k) w s.setup ≠ s.setup →
          takeWord (restartField k) w s = restart (s.withSetup (takeFields (restartField k) w s.setup))) := by
  cases k with
  | geometry =>
    refine ⟨fun h => if_neg ?_, fun h => if_pos ?_⟩
    · exact not_or.2 ⟨not_not.2 (congrArg Setup.width h), not_not.2 (congrArg Setup.height h)⟩
    · by_contra hn
      obtain ⟨hw, hh⟩ := not_or.1 hn
      exact h (congrArg₂ (fun x y => { s.setup with width := x, height := y }) (not_not.1 hw) (not_not.1 hh))
  | bufferBase b =>
    refine ⟨fun h => if_neg (not_not.2 (congrArg (fun u : Setup => u.bufferBase[b.val]) h)), fun h => if_pos fun e => h ?_⟩
    have same : s.setup.bufferBase.set b.val (baseAddress w) = s.setup.bufferBase := by
      have e : baseAddress w = s.setup.bufferBase[b.val] := by simpa [restartField, takeFields] using e
      rw [e, Vector.set_getElem_self]
    exact congrArg (fun x => { s.setup with bufferBase := x }) same

/-- Settles O14: a change of geometry or of a buffer base is `restart`. -/
theorem restartWordRestarts : Obligations.RestartWordRestarts := by
  intro m k w s hp hu u hk
  have fields : u = takeFields (restartField k) w s.setup := by cases k <;> exact hk
  have taken : exec (.restart m k w) s = .next (takeWord (restartField k) w (capturedAt (restartOffset k) w s)) := by
    rw [← setupWordAt_restartOffset]
    refine exec_setupWrite_taken hp hu m ?_ ?_ w <;> rw [setupWordAt_restartOffset] <;> cases k <;> simp [restartField]
  obtain ⟨same, changed⟩ := takeWord_restart k w (capturedAt (restartOffset k) w s)
  rw [taken, fields]
  exact ⟨fun h => congrArg _ (same h), fun h => congrArg _ ((changed h).trans (restart_eq _))⟩

/-! ## Entry to UNSET -/

/-- R57, R75: with all four tables cleared nothing is left of them. -/
theorem clearAllTables_eq (s : State) :
    clearAllTables s = { s with tables := Shadows.reset, gradeList := GradeList.reset } := rfl

/-- R19, R194: the entry to UNSET with the port free, but for what the close of an open frame does. -/
theorem enterUnset_idle {s : State} (h : s.port.inProgress = none) :
    enterUnset s =
      let c := closeFrame false s
      { c with
        partState := .unset
        reload := ⟨⟨false, 0⟩, ⟨false, 0⟩, ⟨false, 0⟩, ⟨false, 0⟩⟩
        tables := Shadows.reset
        gradeList := GradeList.reset
        port := { s.port with reloadRequest := none, reportRequest := none }
        ring := { c.ring with inFlight := false } } := by
  have hc : (closeFrame false s).port = s.port := by simp
  simp only [enterUnset, abandonReload, discardInProgress, clearAllTables_eq, suspendReports, withdrawReport, dropPending,
    hc, h]
  simp only [State.withReload, State.withPort, State.withPartState, State.withRing]
  rfl

/-- Settles O11: outside UNSET another revision is `enterUnset`. -/
theorem otherRevisionEntersUnset : Obligations.OtherRevisionEntersUnset := by
  intro m w s hp hu hr
  change Host.Outcome.next (arriveSetupWord m 0 w s) = _
  rw [arriveSetupWord_otherRevision hp hu m hr, enterUnset_idle (s := capturedAt 0 w s) hp.2]
  rfl

end Sys2Proof.Machine
end

section
/-! The taking of a whole shadow (R18). -/

namespace Sys2Proof.Machine

/-- The setup words with fields, and those without (R199). -/
theorem finRange_setupWords :
    List.finRange 64 =
      [0, 1, 2, 3, 4, 5, 6, 7, 8, 9, 10, 11, 12, 13, 14, 15, 16, 17, 18, 19, 20, 21, 22, 23, 24, 25, 26]
        ++ (List.finRange 37).map (Fin.natAdd 27) := by decide

theorem foldl_noField (sh : Vector Word 64) (u : Setup) (l : List (Fin 37)) :
    (l.map (Fin.natAdd 27)).foldl (fun u (k : Fin 64) => takeFields (setupWordAt k) sh[k.val] u) u = u := by
  induction l with
  | nil => rfl
  | cons k l ih =>
    rw [List.map_cons, List.foldl_cons, setupWordAt_noField (k := Fin.natAdd 27 k) (by simp)]
    exact ih

/-- R18, R199: the words of the layout are taken in their order; the words above them carry no field. -/
theorem takeShadow_eq (sh : Vector Word 64) (u : Setup) :
    takeShadow sh u = setupLayout.zipIdx.foldl (fun u p => takeFields p.1 (sh[p.2]?.getD 0) u) u := by
  rw [takeShadow, finRange_setupWords, List.foldl_append, foldl_noField]
  have word : ∀ k : Fin 64, sh[k.val] = sh[k.val]?.getD 0 := fun k => by simp
  simp only [word]
  rfl

theorem set_four (v : Vector Nat 4) (a b c d : Nat) :
    (((v.set (0 : Fin 4).val a).set (1 : Fin 4).val b).set (2 : Fin 4).val c).set (3 : Fin 4).val d
      = #v[a, b, c, d] := by
  ext i hi
  interval_cases i <;> simp

/-- Settles O26: the words of the layout are taken one after another, each with its clamps. -/
theorem takenSetupHoldsEveryField : Obligations.TakenSetupHoldsEveryField := by
  intro sh u fld base hf hb
  have field : ∀ k lo len : Nat, bits (sh[k]?.getD 0) lo len = fld k lo len := fun k lo len => (hf k lo len).symm
  have word : ∀ (k : Nat) (hk : k < 64), sh[k] = sh[k]?.getD 0 := fun k hk => by simp [hk]
  have address : ∀ k : Nat, baseAddress (sh[k]?.getD 0) = base k := fun k => (hb k).symm ▸ congrArg (4 * ·) (field k 2 24)
  rw [takeShadow_eq]
  by_cases hl : fld 18 0 10 < fld 18 16 10
  all_goals
    simp only [setupLayout, List.zipIdx, List.foldl, takeFields, legalRefused, field, address, hl, decide_true, if_true]
    simp only [word, clampNat, clampInt, set_four, Nat.zero_max, channels, field, Nat.reduceAdd]
    rfl

end Sys2Proof.Machine
end

section
/-! The reload engine starting over: the first read of a table that has just become pending (R12, R22, R196). -/

namespace Sys2Proof.Machine

/-! ## One requested part -/

theorem partInStore_word0 (u : Setup) (ref : ItemRef) : partInStore u ref .word0 = inStore (itemAddress u ref 0) := by
  simp [partInStore, partOffsets]

/-- A part with a word in the store is requested as it is (R196). -/
theorem requestPart_inStore {s : State} {ref : ItemRef} {part : ItemPart} (h : partInStore s.setup ref part = true)
    (fuel : Nat) :
    requestPart (fuel + 1) ref part s = s.withPort { s.port with reloadRequest := some (.item ref part) } := by
  simp [requestPart, h]

/-- A first read with no word in the store completes at once, and the second read of its item follows (R22). -/
theorem requestPart_rest_outside {s : State} {ref : ItemRef} (h : partInStore s.setup ref .rest = false) (fuel : Nat) :
    requestPart (fuel + 1) ref .rest s = requestPart fuel ref .word0 (installRest ref s) := by
  simp [requestPart, h, installPart, followingRead]

theorem reloadOutstanding_request (p : MemoryPort) (r : ReloadRead) :
    reloadOutstanding { p with reloadRequest := some r } = true := rfl

theorem leaveLoading_outstanding {s : State} (h : reloadOutstanding s.port = true) : leaveLoading s = s := by
  simp [leaveLoading, h]

theorem reloadOutstanding_idle {p : MemoryPort} (hr : p.reloadRequest = none) (hp : p.inProgress = none) :
    reloadOutstanding p = false := by
  simp [reloadOutstanding, reloadInProgress, hr, hp]

theorem discardInProgress_idle {p : MemoryPort} (h : p.inProgress = none) (cleared : List TableId) :
    discardInProgress cleared p = p := by
  simp [discardInProgress, h]

/-! ## Staging words of a cleared item -/

/-- Every staged word of an item is 0, as a clear leaves it (R24). -/
def StagedZero (t : Shadows) : ItemRef → Prop
  | .slot i => t.slots[i.val].staged = Vector.replicate 3 0
  | .record i => t.records[i.val].staged = Vector.replicate 7 0
  | .curve i => t.curves[i.val].staged = Vector.replicate 16 0
  | .window i => t.windows[i.val].staged = Vector.replicate 3 0

theorem stageWord_zero {n : Nat} {i : Item n} (h : i.staged = Vector.replicate n 0) (o : Nat) : i.stageWord o 0 = i := by
  cases i
  simp only at h
  subst h
  simp only [Item.stageWord, Item.mk.injEq, and_true]
  ext j hj
  simp

theorem stageTableWord_zero {s : State} {ref : ItemRef} (h : StagedZero s.tables ref) (o : Nat) :
    stageTableWord ref o 0 s = s := by
  unfold stageTableWord
  cases ref <;> dsimp only [StagedZero] at h ⊢ <;> rw [stageWord_zero h, Vector.set_getElem_self] <;> rfl

/-- A first read with no word in the store leaves a cleared item as it was: its words are 0 (R22). -/
theorem installRest_zero {s : State} {ref : ItemRef} (h : partInStore s.setup ref .rest = false)
    (hz : StagedZero s.tables ref) : installRest ref s = s := by
  have words : ∀ o ∈ partOffsets ref .rest, reloadWord s ref o = 0 := by
    intro o ho
    have := List.any_eq_false.1 h o ho
    simp [reloadWord, this]
  unfold installRest
  generalize partOffsets ref .rest = l at words
  induction l with
  | nil => rfl
  | cons o l ih =>
    rw [List.foldl_cons, words o (by simp), stageTableWord_zero hz]
    exact ih fun o ho => words o (by simp [ho])

/-! ## The first read of a table that starts over -/

theorem itemAddress_first (u : Setup) (t : TableId) : itemAddress u (itemAt t 0) 0 = u.tableBase.get t := by
  cases t <;> simp [itemAddress, itemAt, ItemRef.table, ItemRef.index]

/-- R22, R196: the engine requests the first read of the first pending table from item 0, or its second read when no word
of the first lies in the store. -/
theorem requestPart_first {s : State} {t : TableId} (hb : WordAddress (s.setup.tableBase.get t)) (fuel : Nat) :
    requestPart (fuel + 2) (itemAt t 0) .rest s =
      (if partInStore s.setup (itemAt t 0) .rest then s else installRest (itemAt t 0) s).withPort
        { s.port with reloadRequest := some (firstReadOf s.setup t) } := by
  unfold firstReadOf
  cases h : partInStore s.setup (itemAt t 0) .rest
  · have h0 : partInStore (installRest (itemAt t 0) s).setup (itemAt t 0) .word0 = true := by
      simpa [partInStore_word0, itemAddress_first, inStore] using hb.2
    rw [requestPart_rest_outside h, requestPart_inStore h0]
    simp
  · rw [requestPart_inStore h]
    simp

/-- R20, R196: with nothing outstanding and a table pending from item 0, its first read is requested. -/
theorem resumeReload_first {s : State} {t : TableId} (hr : s.port.reloadRequest = none) (hp : s.port.inProgress = none)
    (hf : firstPending s.reload = some (itemAt t 0)) (hb : WordAddress (s.setup.tableBase.get t)) :
    resumeReload s =
      (if partInStore s.setup (itemAt t 0) .rest then s else installRest (itemAt t 0) s).withPort
        { s.port with reloadRequest := some (firstReadOf s.setup t) } := by
  unfold resumeReload requestFirstPending
  simp only [reloadOutstanding_idle hr hp, hf, Bool.false_eq_true, if_false]
  exact (congrArg leaveLoading (requestPart_first hb 1599)).trans (leaveLoading_outstanding rfl)

/-- When the table has just been cleared, nothing but the request is left of it. -/
theorem resumeReload_first_cleared {s : State} {t : TableId} (hr : s.port.reloadRequest = none)
    (hp : s.port.inProgress = none) (hf : firstPending s.reload = some (itemAt t 0))
    (hb : WordAddress (s.setup.tableBase.get t)) (hz : StagedZero s.tables (itemAt t 0)) :
    resumeReload s = s.withPort { s.port with reloadRequest := some (firstReadOf s.setup t) } := by
  rw [resumeReload_first hr hp hf hb]
  split
  · rfl
  · next h => rw [installRest_zero (by simpa using h) hz]

/-- R12, R196: with the port free a clear only withdraws a waiting request before the engine resumes. -/
theorem restartReload_idle {s : State} (hp : s.port.inProgress = none) (cleared : List TableId) :
    restartReload cleared s =
      resumeReload (s.withPort
        { s.port with reloadRequest := if requestWithdrawn cleared s then none else s.port.reloadRequest }) := by
  unfold restartReload
  rw [discardInProgress_idle hp]

/-! ## RELOAD ALL -/

theorem stagedZero_reset (ref : ItemRef) : StagedZero Shadows.reset ref := by
  cases ref <;> simp [StagedZero, Shadows.reset, Item.cleared]

/-- R22, R196: a waiting request of any table is withdrawn when all four are cleared. -/
theorem requestWithdrawn_all {s : State} (h : setupReadOutstanding s.port = false) :
    (if requestWithdrawn allTables s then none else s.port.reloadRequest) = none := by
  unfold requestWithdrawn
  have all : ∀ ref : ItemRef, ref.table ∈ allTables := by intro ref; cases ref <;> simp [ItemRef.table, allTables]
  split
  · simp [all]
  · simp [all]
  · next hs => simp [setupReadOutstanding, hs] at h
  · next hs => simp [hs]

theorem makeAllPending_eq (s : State) :
    makeAllPending s = { s with reload := ⟨⟨true, 0⟩, ⟨true, 0⟩, ⟨true, 0⟩, ⟨true, 0⟩⟩ } := rfl

/-- R22: RELOAD ALL with the port free, but for what the close of an open frame does. -/
theorem reloadAll_idle {s : State} (hp : s.port.inProgress = none) (hs : setupReadOutstanding s.port = false)
    (hb : WordAddress s.setup.tableBase.gradeList) :
    reloadAll s =
      { closeFrame false s with
        partState := .loading
        tables := Shadows.reset
        gradeList := GradeList.reset
        reload := ⟨⟨true, 0⟩, ⟨true, 0⟩, ⟨true, 0⟩, ⟨true, 0⟩⟩
        port := { s.port with reloadRequest := some (firstReadOf s.setup .gradeList) } } := by
  have hc : (closeFrame false s).port = s.port := by simp
  have hu : (closeFrame false s).setup = s.setup := by simp
  unfold reloadAll
  generalize closeFrame false s = c at hc hu ⊢
  simp only [State.withPartState, clearAllTables_eq, makeAllPending_eq]
  rw [restartReload_idle (by simpa [hc] using hp), requestWithdrawn_all (by simpa [hc] using hs),
    resumeReload_first_cleared (t := .gradeList) rfl (by simpa [hc] using hp) rfl
      (by simpa [hu, PerTable.get] using hb) (stagedZero_reset _)]
  simp only [State.withPort, hc, hu]

/-- Settles O21: RELOAD ALL is command code 2. -/
theorem reloadAllStartsOver : Obligations.ReloadAllStartsOver := by
  intro m args s hp hu hs hb
  have taken : exec (.reloadAll m args) s =
      .next (issueCommand (commandWord 2 args) (capturedAt 1 (commandWord 2 args) s)) :=
    exec_setupWrite_taken hp hu m (k := 1) (by decide) (by decide) _
  have code : commandCodeOf (commandWord 2 args) = 2 := commandCodeOf_commandWord 2 args
  rw [taken]
  simp only [issueCommand, code]
  exact congrArg _ (reloadAll_idle (s := capturedAt 1 _ s) hp.2 hs hb)

end Sys2Proof.Machine
end

section
/-! Retargets (R12): which table is served first, and what a change of a table's base leaves. -/

namespace Sys2Proof.Machine

/-! ## The first pending table (R22) -/

theorem table_itemAt (t : TableId) (n : Nat) : (itemAt t n).table = t := by cases t <;> rfl

/-- R22: the tables are searched in the engine's order. -/
theorem firstPending_eq (r : PerTable TableProgress) :
    firstPending r = (allTables.find? fun t => (r.get t).pending).map fun t => itemAt t (r.get t).next := by
  unfold firstPending allTables
  simp only [List.find?_cons, List.find?_nil, PerTable.get]
  cases r.gradeList.pending <;> cases r.records.pending <;> cases r.curves.pending <;> cases r.windows.pending <;> rfl

theorem firstPending_of_split {r : PerTable TableProgress} {pre post : List TableId} {t : TableId}
    (h : [.gradeList, .records, .curves, .windows] = pre ++ t :: post) (hpre : ∀ q ∈ pre, (r.get q).pending = false)
    (ht : (r.get t).pending = true) : firstPending r = some (itemAt t (r.get t).next) := by
  have none' : pre.find? (fun q => (r.get q).pending) = none := List.find?_eq_none.2 fun q hq => by simp [hpre q hq]
  rw [firstPending_eq, show allTables = pre ++ t :: post from h, List.find?_append, none', List.find?_cons, ht]
  rfl

theorem firstPending_none {r : PerTable TableProgress} (h : ∀ q, (r.get q).pending = false) : firstPending r = none := by
  simp [firstPending_eq, h]

/-- A table that alone is pending is the first pending one. -/
theorem firstPending_set {r : PerTable TableProgress} (h : ∀ q, (r.get q).pending = false) (t : TableId) (n : Nat) :
    firstPending (r.set t ⟨true, n⟩) = some (itemAt t n) := by
  have alone : ∀ q, ((r.set t ⟨true, n⟩).get q).pending = decide (q = t) := by
    intro q
    rw [PerTable.get_set]
    split
    · next hq => simp [hq]
    · next hq => simp [hq, h q]
  rw [firstPending_eq]
  simp only [alone]
  have found : allTables.find? (fun q => decide (q = t)) = some t := by cases t <;> rfl
  simp [found]

/-- R20, R196: with nothing outstanding, the first read of the first pending table is requested when it is issued at
all. -/
theorem resumeReload_next {s : State} {ref : ItemRef} (hr : s.port.reloadRequest = none) (hp : s.port.inProgress = none)
    (hf : firstPending s.reload = some ref) (hi : partInStore s.setup ref .rest = true) :
    resumeReload s = s.withPort { s.port with reloadRequest := some (.item ref .rest) } := by
  unfold resumeReload requestFirstPending
  simp only [reloadOutstanding_idle hr hp, hf, Bool.false_eq_true, if_false]
  exact (congrArg leaveLoading (requestPart_inStore hi 1600)).trans (leaveLoading_outstanding rfl)

/-! ## A retarget -/

/-- The part after a retarget of table `t`, before the engine resumes: an open frame is closed, and the table is cleared
and pending from item 0 (R12, R57, R75, R98). -/
def retargeted (t : TableId) (s : State) : State :=
  { closeFrame false s with
    partState := .loading
    tables := clearedShadows t s.tables
    gradeList := if t = .gradeList then GradeList.reset else s.gradeList
    reload := s.reload.set t { pending := true, next := 0 } }

theorem retarget_eq (t : TableId) (s : State) : retarget t s = restartReload [t] (retargeted t s) := by
  have hc : (closeFrame false s).tables = s.tables ∧ (closeFrame false s).gradeList = s.gradeList
      ∧ (closeFrame false s).reload = s.reload := by simp
  obtain ⟨ht, hg, hr⟩ := hc
  unfold retarget retargeted
  generalize closeFrame false s = c at ht hg hr
  congr 1
  cases t <;>
    simp [clearTable, makePending, State.withTables, State.withGradeList, State.withReload, State.withPartState, ht, hg,
      hr, clearedShadows, Shadows.reset]

theorem retargeted_port (t : TableId) (s : State) : (retargeted t s).port = s.port := by simp [retargeted]

theorem retargeted_setup (t : TableId) (s : State) : (retargeted t s).setup = s.setup := by simp [retargeted]

theorem stagedZero_cleared (t : TableId) (x : Shadows) (n : Nat) : StagedZero (clearedShadows t x) (itemAt t n) := by
  cases t <;> simp [StagedZero, clearedShadows, itemAt, Item.cleared]

/-- R12: a retarget with the engine idle requests the table's first read. -/
theorem retarget_idle {s : State} {t : TableId} (hp : s.port.inProgress = none) (hi : ReloadIdle s)
    (hb : WordAddress (s.setup.tableBase.get t)) :
    retarget t s =
      { retargeted t s with port := { s.port with reloadRequest := some (firstReadOf s.setup t) } } := by
  obtain ⟨hn, hr⟩ := hi
  have hport := retargeted_port t s
  have hsetup := retargeted_setup t s
  have hf : firstPending (retargeted t s).reload = some (itemAt t 0) := firstPending_set hn t 0
  have hz : StagedZero (retargeted t s).tables (itemAt t 0) := stagedZero_cleared t s.tables 0
  rw [retarget_eq]
  generalize retargeted t s = c at hport hsetup hf hz ⊢
  rw [restartReload_idle (by rw [hport, hp]), hport, hr, ite_self,
    resumeReload_first_cleared (s := c.withPort { s.port with reloadRequest := none }) rfl hp hf
      (by simpa [hsetup] using hb) hz]
  simp only [State.withPort, hsetup]

/-- R196: which waiting request of an item a retarget of table `k` withdraws, when `t` is the first pending table. -/
theorem requestWithdrawn_iff {s : State} {k t : TableId} {ref : ItemRef} {part : ItemPart}
    (hr : s.port.reloadRequest = some (.item ref part)) (hf : (firstPending s.reload).map ItemRef.table = some t) :
    requestWithdrawn [k] s = true ↔ ¬ (ref.table ≠ k ∧ (part = .word0 ∨ ref.table = t)) := by
  unfold requestWithdrawn
  rw [hr]
  cases part with
  | word0 => simp
  | rest =>
    simp only [hf, List.mem_singleton, Bool.or_eq_true, decide_eq_true_eq, ne_eq, Option.some.injEq, reduceCtorEq,
      false_or, eq_comm (a := t)]
    tauto

/-- R12, R196: a retarget with a read waiting at the arbiter keeps that request, or has the first read of the first
pending table take its place. -/
theorem retarget_waiting {s : State} {k t : TableId} {ref : ItemRef} {part : ItemPart} {n : Nat}
    (hp : s.port.inProgress = none) (hr : s.port.reloadRequest = some (.item ref part))
    (hf : firstPending (s.reload.set k ⟨true, 0⟩) = some (itemAt t n))
    (hi : partInStore s.setup (itemAt t n) .rest = true) :
    retarget k s =
      { retargeted k s with
        port := { s.port with
          reloadRequest :=
            if ref.table ≠ k ∧ (part = .word0 ∨ ref.table = t) then some (.item ref part)
            else some (.item (itemAt t n) .rest) } } := by
  have hport := retargeted_port k s
  have hsetup := retargeted_setup k s
  have hf : firstPending (retargeted k s).reload = some (itemAt t n) := hf
  have withdrawn : requestWithdrawn [k] (retargeted k s) = true ↔ _ :=
    requestWithdrawn_iff (t := t) (by rw [hport, hr]) (by rw [hf, Option.map_some, table_itemAt])
  rw [retarget_eq]
  generalize retargeted k s = c at hport hsetup hf withdrawn ⊢
  rw [restartReload_idle (by rw [hport, hp]), hport, hr]
  by_cases keep : ref.table ≠ k ∧ (part = .word0 ∨ ref.table = t)
  · rw [if_pos keep, if_neg (fun h => withdrawn.1 h keep), resumeReload_outstanding rfl]
    rfl
  · rw [if_neg keep, if_pos (withdrawn.2 keep),
      resumeReload_next (s := c.withPort { s.port with reloadRequest := none }) (ref := itemAt t n) rfl hp hf
        (by simpa [hsetup] using hi)]
    rfl

theorem setupWordAt_retargetOffset (k : TableId) : setupWordAt (retargetOffset k) = .tableBase k := by cases k <;> rfl

/-- R12: a word that holds a table's base retargets the table when the base changes. -/
theorem takeWord_tableBase (k : TableId) (w : Word) (s : State) :
    (takeFields (.tableBase k) w s.setup = s.setup → takeWord (.tableBase k) w s = s)
      ∧ (takeFields (.tableBase k) w s.setup ≠ s.setup →
          takeWord (.tableBase k) w s = retarget k (s.withSetup (takeFields (.tableBase k) w s.setup))) := by
  refine ⟨fun h => if_neg (not_not.2 (congrArg (fun u : Setup => u.tableBase.get k) h)), fun h => if_pos fun e => h ?_⟩
  have e : baseAddress w = s.setup.tableBase.get k := by simpa [takeFields] using e
  have same : s.setup.tableBase.set k (baseAddress w) = s.setup.tableBase := by rw [e]; cases k <;> rfl
  exact congrArg (fun x => { s.setup with tableBase := x }) same

/-- Settles O15: a change of base is `retarget`, on the engine idle or with a waiting request. -/
theorem retargetRestartsItsTable : Obligations.RetargetRestartsItsTable := by
  intro m k w s hp hu u hk
  have fields : takeFields (.tableBase k) w s.setup = u := hk.symm
  have taken : exec (.retarget m k w) s = .next (takeWord (.tableBase k) w (capturedAt (retargetOffset k) w s)) := by
    rw [← setupWordAt_retargetOffset]
    refine exec_setupWrite_taken hp hu m ?_ ?_ w <;> rw [setupWordAt_retargetOffset] <;> simp
  obtain ⟨same, changed⟩ := takeWord_tableBase k w (capturedAt (retargetOffset k) w s)
  rw [capturedAt_setup, fields] at same changed
  rw [taken]
  refine ⟨fun h => congrArg _ (same h), fun h c r hr hc => ⟨fun hi => ?_, ?_⟩⟩
  · have hb : WordAddress (u.tableBase.get k) := by
      rw [hk, PerTable.get_set, if_pos rfl]
      exact wordAddress_baseAddress w
    rw [changed h, retarget_idle (s := (capturedAt (retargetOffset k) w s).withSetup u) hp.2 hi hb, hc, hr]
    rfl
  · intro ref part hq pre post t hsplit hpre ht ha
    rw [hr] at hpre ht ha ⊢
    rw [changed h, retarget_waiting (s := (capturedAt (retargetOffset k) w s).withSetup u) hp.2 hq
      (firstPending_of_split hsplit hpre ht) (partInStore_rest ha), hc, hr]
    rfl

end Sys2Proof.Machine
end

section
/-! The taking of all setup values (R18), from a word 0 in UNSET and from the fourth setup read (R21). -/

namespace Sys2Proof.Machine

/-! ## What the parts of the taking leave -/

theorem closeFrame_openFrame (complete : Bool) (s : State) : (closeFrame complete s).tracker.openFrame = none := by
  unfold closeFrame
  split
  · simp [closeOpenFrame]
  · next h => exact h

/-- R139: a RECIP request is in progress or in its slot. -/
theorem request_recip (d : Divider) (n k : Nat) :
    (∃ v, (d.request .recip n k).inProgress = some v ∧ v.client = .recip ∧ v.request.divisor = k)
      ∨ ∃ r, (d.request .recip n k).recip = some r ∧ r.divisor = k := by
  unfold Divider.request
  cases d.inProgress with
  | none => exact .inl ⟨_, rfl, rfl, rfl⟩
  | some v => exact .inr ⟨_, rfl, rfl⟩

/-- What staging does to the queue depends on the ring alone (R186). -/
theorem stage_ring {s t : State} (h : s.ring = t.ring) (r : Record) : (stage r s).ring = (stage r t).ring := by
  unfold stage queueHasRoom
  rw [h]
  split <;> rfl

/-- The part once the values of the shadow are in use: a change of ppf clears the phase (R18, R30). -/
def valuesTaken (s : State) : State :=
  if (takeShadow s.shadow s.setup).ppf ≠ s.setup.ppf then ppfChanged (s.withSetup (takeShadow s.shadow s.setup))
  else s.withSetup (takeShadow s.shadow s.setup)

/-- The part once a stop limit that has passed has expired and the legal word has been looked at (R15, R34). -/
def valuesChecked (s : State) : State := checkShadowLegal (expireIfDue (valuesTaken s))

theorem takeSetup_checked (s : State) :
    takeSetup s = resumeReload (makeAllPending ((resetRing (restart (valuesChecked s))).withPartState .loading)) := rfl

@[simp] theorem valuesTaken_frame (s : State) :
    (valuesTaken s).resetAsserted = s.resetAsserted ∧ (valuesTaken s).setupSel = s.setupSel ∧
    (valuesTaken s).shadow = s.shadow ∧ (valuesTaken s).setup = takeShadow s.shadow s.setup ∧
    (valuesTaken s).port = s.port ∧ (valuesTaken s).tables = s.tables ∧ (valuesTaken s).gradeList = s.gradeList ∧
    (valuesTaken s).tracker = s.tracker ∧ (valuesTaken s).lanes = s.lanes ∧ (valuesTaken s).mix = s.mix ∧
    (valuesTaken s).detector = s.detector ∧ (valuesTaken s).profiles = s.profiles ∧ (valuesTaken s).ring = s.ring ∧
    (valuesTaken s).store = s.store ∧ (valuesTaken s).returned = s.returned ∧
    (valuesTaken s).freeCount = s.freeCount ∧ (valuesTaken s).pending = s.pending := by
  unfold valuesTaken
  split <;> simp

theorem valuesTaken_footage (s : State) :
    (valuesTaken s).footage =
      if (takeShadow s.shadow s.setup).ppf = s.setup.ppf then s.footage
      else { s.footage with phase := 0, limit := false } := by
  unfold valuesTaken
  rw [ite_not]
  split <;> rfl

@[simp] theorem valuesChecked_frame (s : State) :
    (valuesChecked s).resetAsserted = s.resetAsserted ∧ (valuesChecked s).setupSel = s.setupSel ∧
    (valuesChecked s).shadow = s.shadow ∧ (valuesChecked s).setup = takeShadow s.shadow s.setup ∧
    (valuesChecked s).port = s.port ∧ (valuesChecked s).tables = s.tables ∧
    (valuesChecked s).gradeList = s.gradeList ∧ (valuesChecked s).tracker = s.tracker ∧
    (valuesChecked s).lanes = s.lanes ∧ (valuesChecked s).mix = s.mix ∧ (valuesChecked s).profiles = s.profiles ∧
    (valuesChecked s).store = s.store ∧ (valuesChecked s).returned = s.returned ∧
    (valuesChecked s).freeCount = s.freeCount ∧ (valuesChecked s).pending = s.pending := by
  simp [valuesChecked]

theorem expireIfDue_detector (s : State) :
    { (expireIfDue s).detector with reference := none } = { s.detector with reference := none } := by
  unfold expireIfDue
  split
  · simp [expireStopLimit, discardReference]
  · rfl

theorem valuesChecked_detector (s : State) :
    { (valuesChecked s).detector with reference := none } = { s.detector with reference := none } := by
  have h := expireIfDue_detector (valuesTaken s)
  simpa only [valuesChecked, checkShadowLegal_frame, valuesTaken_frame] using h

/-- The frame number and the phase once the values are taken and checked. -/
theorem valuesChecked_count (s : State) :
    (valuesChecked s).footage.number = s.footage.number
      ∧ (valuesChecked s).footage.phase =
          (if (takeShadow s.shadow s.setup).ppf = s.setup.ppf then s.footage.phase else 0) := by
  obtain ⟨hn, hp⟩ := expireIfDue_count (valuesTaken s)
  simp only [valuesChecked, checkShadowLegal_frame, hn, hp, valuesTaken_footage]
  split <;> exact ⟨rfl, rfl⟩

/-! ## The taking as a whole -/

theorem bases_takeShadow (sh : Vector Word 64) (u : Setup) :
    WordAddress ((takeShadow sh u).tableBase.get .gradeList) := by
  rw [takenSetupHoldsEveryField sh u (fun k lo len => ((sh[k]?.getD 0).extractLsb' lo len).toNat) _
    (fun _ _ _ => rfl) (fun _ => rfl)]
  exact wordAddress_baseAddress _

/-- The first read of an item changes the shadows alone (R24). -/
theorem installRest_tables (ref : ItemRef) (s : State) : installRest ref s = s.withTables (installRest ref s).tables := by
  have fold : ∀ (l : List Nat) (u : State), ∃ x, l.foldl (fun t o => stageTableWord ref o (reloadWord s ref o) t) u =
      u.withTables x := by
    intro l
    induction l with
    | nil => exact fun u => ⟨u.tables, rfl⟩
    | cons o l ih =>
      intro u
      obtain ⟨x, hx⟩ := ih (stageTableWord ref o (reloadWord s ref o) u)
      exact ⟨x, hx⟩
  obtain ⟨x, hx⟩ := fold (partOffsets ref .rest) s
  rw [show installRest ref s = s.withTables x from hx]
  rfl

/-- R18, R22: after the taking the first read of slot 0 is requested; the rest of the part is at a restart and a ring
reset. -/
theorem takeSetup_eq {s : State} (hp : s.port.inProgress = none) (hr : s.port.reloadRequest = none) :
    ∃ t part, (part = .rest → t = s.tables) ∧ takeSetup s =
      { restart (valuesChecked s) with
        partState := .loading
        tables := t
        reload := ⟨⟨true, 0⟩, ⟨true, 0⟩, ⟨true, 0⟩, ⟨true, 0⟩⟩
        port := { s.port with reloadRequest := some (.item (.slot 0) part), reportRequest := some .publication }
        ring := { (restart (valuesChecked s)).ring with
          head := ⟨0, false⟩, consumer := ⟨0, false⟩, inFlight := false, publication := true, attn := false } } := by
  obtain ⟨hport, htables, hu⟩ : (restart (valuesChecked s)).port = s.port ∧ (restart (valuesChecked s)).tables = s.tables
      ∧ (restart (valuesChecked s)).setup = takeShadow s.shadow s.setup := by simp
  rw [takeSetup_checked]
  generalize restart (valuesChecked s) = c at hport htables hu ⊢
  rw [resetRing_idle (by rw [hport, hp]), makeAllPending_eq, State.withPartState, hport]
  rw [resumeReload_first (t := .gradeList) (by exact hr) (by exact hp) rfl
    (by simpa [hu] using bases_takeShadow s.shadow s.setup)]
  split
  · next h => exact ⟨_, .rest, fun _ => htables, by simp [State.withPort, firstReadOf, h]; rfl⟩
  · next h =>
    rw [installRest_tables]
    exact ⟨_, .word0, fun h => (nomatch h), by simp only [State.withPort, firstReadOf, if_neg h]; rfl⟩

/-! ## The records of the taking -/

theorem stopLimitDue_iff (s : State) : stopLimitDue s = true ↔ StopLimitPassed s.setup.stopLimit s.footage := by
  unfold stopLimitDue StopLimitPassed sinceLastEdge
  cases s.footage.transport <;> cases s.footage.lastEdge <;> simp [microseconds]

theorem expireStopLimit_ring (s : State) :
    (expireStopLimit s).ring =
      (stage (.transport
        { causes := ⟨false, true, false, false⟩, transport := .stopped, direction := s.footage.direction
          number := s.footage.number, phase := s.footage.phase }) s).ring := by
  simp only [expireStopLimit, discardReference_frame, stageTransport, State.withDivider, State.withFootage]
  refine stage_ring ?_ _
  rfl

/-- R15, R18, R34: the taking stages the TRANSPORT record of a stop limit that has passed, and then the FAULT of a refused
legal word (assumption 14). -/
theorem valuesChecked_ring {s u x y : State} (hring : u.ring = s.ring) (hfoot : u.footage = s.footage)
    (hsel : u.setupSel = s.setupSel)
    (hx : StopLimitPassed (takeShadow u.shadow u.setup).stopLimit s.footage →
      x = stage (.transport
        { causes := ⟨false, true, false, false⟩, transport := .stopped, direction := s.footage.direction
          number := s.footage.number, phase := (valuesChecked u).footage.phase }) s)
    (hx' : ¬ StopLimitPassed (takeShadow u.shadow u.setup).stopLimit s.footage → x = s)
    (hy : bits u.shadow[18] 0 10 < bits u.shadow[18] 16 10 → y = stage (.fault (.setupRange (setupAddress s 18))) x)
    (hy' : ¬ bits u.shadow[18] 0 10 < bits u.shadow[18] 16 10 → y = x) : (valuesChecked u).ring = y.ring := by
  have hv : (valuesTaken u).ring = s.ring := by simp [hring]
  have hf := valuesTaken_footage u
  have passed : stopLimitDue (valuesTaken u) = true ↔
      StopLimitPassed (takeShadow u.shadow u.setup).stopLimit s.footage := by
    rw [stopLimitDue_iff, hf, hfoot]
    simp only [valuesTaken_frame]
    split <;> rfl
  have expired : (expireIfDue (valuesTaken u)).ring = x.ring := by
    have phase : (valuesChecked u).footage.phase = (valuesTaken u).footage.phase := by
      simp only [valuesChecked, checkShadowLegal_frame, expireIfDue_count]
    have kept : (valuesTaken u).footage.direction = s.footage.direction
        ∧ (valuesTaken u).footage.number = s.footage.number := by
      rw [hf, hfoot]
      split <;> exact ⟨rfl, rfl⟩
    unfold expireIfDue
    split
    · next due => rw [hx (passed.1 due), expireStopLimit_ring, stage_ring hv, phase, kept.1, kept.2]
    · next due => rw [hx' (mt passed.2 due), hv]
  have address : setupAddress (expireIfDue (valuesTaken u)) 18 = setupAddress s 18 := by
    simp [setupAddress, setupBase, hsel]
  unfold valuesChecked checkShadowLegal
  simp only [expireIfDue_frame, valuesTaken_frame, legalRefused, decide_eq_true_eq]
  split
  · next hl => rw [hy hl, address]; exact stage_ring expired _
  · next hl => rw [hy' hl, expired]

/-- R18: the taking of all setup values from the shadow `sh`, in the words of `SetupJustTaken`. -/
theorem takeSetup_justTaken {s u : State} {sh : Vector Word 64} (hr : s.port.reloadRequest = none)
    (hu : ∃ m, u = { s with shadow := sh, store := m, port := { s.port with inProgress := none } }) :
    SetupJustTaken sh s (takeSetup u) := by
  obtain ⟨m, hu⟩ := hu
  have hsetup : u.setup = s.setup := by rw [hu]
  have hshadow : u.shadow = sh := by rw [hu]
  have hport : u.port = { s.port with inProgress := none } := by rw [hu]
  obtain ⟨t, part, htables, he⟩ := takeSetup_eq (s := u) (by rw [hport]) (by rw [hport, hr])
  obtain ⟨hn, hph⟩ := valuesChecked_count u
  have hf := restart_sameCounter (valuesChecked u)
  have hopen : (restart (valuesChecked u)).tracker.openFrame = none := by
    rw [restart_eq]; exact closeFrame_openFrame _ _
  have hdet : (restart (valuesChecked u)).detector.reference = none
      ∧ (restart (valuesChecked u)).detector.recipValid = false := by rw [restart_eq]; exact ⟨rfl, rfl⟩
  have hdiv : (restart (valuesChecked u)).divider =
      (valuesChecked u).divider.request .recip (16777216 + cellCount (takeShadow sh s.setup) - 1)
        (cellCount (takeShadow sh s.setup)) := by
    rw [restart_eq]; simp only [valuesChecked_frame, hshadow, hsetup]
  rw [he]
  refine ⟨rfl, by simp [hshadow], by simp [hshadow, hsetup], rfl,
    ⟨part, rfl, fun h => by rw [htables h, hu]⟩, rfl, rfl, rfl, rfl, rfl, rfl, by simp [hport], by simp [hport], hdet.1,
    hdet.2, ?recip, hopen, ?number, ?phase, ?_, ?_, ?_, ?_, ?_, ?_, ?_, ?_, ?closed⟩
  case recip =>
    rw [show (restart (valuesChecked u)).setup = takeShadow sh s.setup by simp [hshadow, hsetup], hdiv]
    exact request_recip _ _ _
  case number => rw [hf.number, hn, hu]
  case phase =>
    rw [hf.phase, hph, show (restart (valuesChecked u)).setup = takeShadow u.shadow u.setup by simp, hu]
  case closed =>
    intro ho
    have hc : closeFrame false (valuesChecked u) = valuesChecked u :=
      closeFrame_none (by simp [hu, ho]) false
    have hring : (restart (valuesChecked u)).ring = (valuesChecked u).ring := by rw [restart_eq, hc]
    refine ⟨by rw [restart_eq, hc]; simp [hu], by rw [restart_eq, hc]; simp [hu], ?_, fun x y hx hx' hy hy' => ?_⟩
    · rw [restart_eq, hc]
      have h := congrArg (fun d : Detector => { d with recipValid := false }) (valuesChecked_detector u)
      rw [hu] at h ⊢
      exact h
    · have hsh : (restart (valuesChecked u)).setup = takeShadow u.shadow u.setup := by simp
      have hphase : (restart (valuesChecked u)).footage.phase = (valuesChecked u).footage.phase := hf.phase
      have hq : (valuesChecked u).ring = y.ring :=
        valuesChecked_ring (by rw [hu]) (by rw [hu]) (by rw [hu]) (fun h => hphase ▸ hx (hsh ▸ h))
          (fun h => hx' (hsh ▸ h)) (fun h => hy (hshadow ▸ h)) (fun h => hy' (hshadow ▸ h))
      exact ⟨by rw [← hq, ← hring], by rw [← hq, ← hring]⟩
  all_goals simp [hu]

end Sys2Proof.Machine
end

section
/-! O9 and O10: the setup read and a word 0 in UNSET. -/

namespace Sys2Proof.Machine

/-- R7, R21: the shadow after setup read `q`: its 16 words as memory holds them, and every other word as before. -/
theorem installSetupRead_shadow (q : Fin 4) (s : State) (k : Fin 64) :
    (installSetupRead q s).shadow[k.val] =
      if 16 * q.val ≤ k.val ∧ k.val < 16 * q.val + 16 then readWord s.store (setupAddress s k.val)
      else s.shadow[k.val] := by
  have fold : ∀ n, ((List.range n).foldl
      (fun v i => v.setIfInBounds (16 * q.val + i) (readWord s.store (setupAddress s (16 * q.val + i)))) s.shadow)[k.val] =
      if 16 * q.val ≤ k.val ∧ k.val < 16 * q.val + n then readWord s.store (setupAddress s k.val)
      else s.shadow[k.val] := by
    intro n
    induction n with
    | zero => simp
    | succ n ih =>
      rw [List.range_succ, List.foldl_append, List.foldl_cons, List.foldl_nil, Vector.getElem_setIfInBounds, ih]
      by_cases h : 16 * q.val + n = k.val
      · simp [h]
        omega
      · rw [if_neg h]
        exact if_congr (by omega) rfl rfl
  exact fold 16

/-- R6: what the port's coming free does after an effect that left the port `p`. -/
theorem forwardWaiting_of_waiting {s : State} {ts : List Transaction} (h : s.port.waiting = ts) :
    forwardWaiting s = forwardedInOrder ts { s with port := { s.port with waiting := [] } } := by
  rw [forwardWaiting_eq, h]
  rfl

/-- Settles O9, by the three outcomes of `completeSetupRead` on the freed port. -/
theorem setupReadInstallsItsWords : Obligations.SetupReadInstallsItsWords := by
  intro q d s hq hr
  have run : exec .setupReadComplete s = .next (forwardWaiting (completeSetupRead q (freePort s))) := by
    change Host.Outcome.next (setupReadCompletes s) = _
    rw [setupReadCompletes, hq]
  obtain ⟨sh, installed⟩ : ∃ sh, installSetupRead q (freePort s) = (freePort s).withShadow sh := ⟨_, rfl⟩
  refine ⟨sh, fun k => ?_, fun h => ?_, fun h3 hn => ?_, fun h3 h1 => ?_⟩
  · have word := installSetupRead_shadow q (freePort s) k
    rw [installed] at word
    exact word
  · rw [run, completeSetupRead, dif_pos h, installed, forwardWaiting_of_waiting (ts := s.port.waiting) (by simp [freePort])]
    rfl
  · have unchanged : completeSetupRead q (freePort s) = (freePort s).withShadow sh := by
      rw [completeSetupRead, dif_neg (by simp [h3]), installed, if_neg (by exact hn)]
    rw [run, unchanged, forwardWaiting_of_waiting (ts := s.port.waiting) (by simp [freePort])]
    rfl
  · have takes : completeSetupRead q (freePort s) = takeSetup ((freePort s).withShadow sh) := by
      rw [completeSetupRead, dif_neg (by simp [h3]), installed, if_pos (by exact h1)]
    have taken := takeSetup_justTaken (u := (freePort s).withShadow sh) hr ⟨s.store, rfl⟩
    refine ⟨takeSetup ((freePort s).withShadow sh), ?_, by simp [freePort], taken⟩
    obtain ⟨-, -, -, -, -, -, -, -, -, -, -, -, waiting, -⟩ := taken
    rw [run, takes, forwardWaiting_of_waiting waiting]

/-- Settles O10: `captureInUnset` on the captured word, either way. -/
theorem revisionOneLeavesUnset : Obligations.RevisionOneLeavesUnset := by
  intro m w s hp hu
  have run : exec (.layoutRevisionWrite m w) s = .next (captureInUnset .control w (capturedAt 0 w s)) := by
    change Host.Outcome.next (arriveSetupWord m 0 w s) = _
    rw [arriveSetupWord_unset hp hu m (by decide)]
    rfl
  refine ⟨fun h => ?_, fun h1 hr => ?_⟩
  · rw [run, captureInUnset, if_neg]
    rintro ⟨-, idle, revision⟩
    exact h.elim (· revision) (fun busy => Bool.noConfusion (idle.symm.trans (by simpa using busy)))
  · have idle : setupReadOutstanding s.port = false := by simp [setupReadOutstanding, hr, hp.2]
    refine ⟨takeSetup (capturedAt 0 w s), ?_, by simp [capturedAt, writtenAt, State.withStore, State.withShadow], ?_⟩
    · rw [run, captureInUnset, if_pos ⟨rfl, by simpa using idle, h1⟩]
    · refine takeSetup_justTaken hr ⟨(capturedAt 0 w s).store, ?_⟩
      rw [← hp.2]
      rfl

end Sys2Proof.Machine
end

section
/-! Single words that pass, are staged or commit: partial writes (R5, R86), table words (R24) and orphans (R100). -/

namespace Sys2Proof.Machine

/-! ## Partial writes -/

/-- The one word of a partial write reaches `forwardPartial`. -/
theorem exec_partialWrite {s : State} (hp : PortOpen s) {lanes : ByteLanes} (hl : lanes ≠ 15) (m : Master) (a : BitVec 24)
    (w : Word) : exec (.partialWrite m a w lanes) s = .next (forwardPartial (4 * a.toNat) ⟨w, lanes⟩ s) := by
  change Host.Outcome.next (arrive { master := m, address := 4 * a.toNat, body := .write [⟨w, lanes⟩] } s) = _
  rw [arrive_open hp]
  simp only [forwardTransaction, forwardWords]
  rw [forwardWord, if_pos (inStore_wordAddress a), if_neg (by simp [hp.1]), if_neg hl]

/-- Settles O27, by whether the word's window is a snooped one. -/
theorem partialWordRaisesAFault : Obligations.PartialWordRaisesAFault := by
  intro m a w lanes s c hp hl hc
  obtain rfl : c = passWord (4 * a.toNat) ⟨w, lanes⟩ s := hc
  rw [exec_partialWrite hp hl]
  refine ⟨fun h => ?_, fun h => ?_⟩
  · have faults : (classify s (4 * a.toNat)).faultsPartial = true := by
      rcases h with ⟨k, h, hk⟩ | ⟨ref, o, h⟩ <;> rw [h]
      · exact decide_eq_true fun hh => hk (setupWordAt_eq_head.1 hh)
      · rfl
    rw [forwardPartial, if_pos faults]
    rfl
  · rw [forwardPartial_unseen (by tauto)]

/-! ## Table words -/

theorem stageWord_eq {n : Nat} (i : Item n) (b : Fin n) (w : Word) :
    i.stageWord (b.val + 1) w = { i with staged := i.staged.set b.val w } := by
  unfold Item.stageWord
  congr 1
  exact Vector.ext fun k hk => by rw [Nat.add_sub_cancel, Vector.getElem_setIfInBounds, Vector.getElem_set]

/-- Settles O28: each word reaches `captureTableWord` of its item. -/
theorem tableWordsStageAndCommit : Obligations.TableWordsStageAndCommit := by
  intro m w s hp
  have captured : ∀ {ref : ItemRef} {o : Nat}, ReachesItem ref o s → arrive (wordWrite m (itemAddress s.setup ref o) w) s =
      captureTableWord ref o w (writtenAt (itemAddress s.setup ref o) w s) := fun h => arriveTableWord_open hp m h w
  refine ⟨fun i hi => ?_, fun n hn => ?_, fun n hn => ?_, fun n hn => ?_⟩
  · rw [exec_busTransaction rfl rfl, captured hi]
    cases i with
    | slot n b | record n b | curve n b | window n b =>
      simp only [captureTableWord, TableWord.offset, if_neg (Nat.succ_ne_zero _), stageTableWord, TableWord.ref,
        stageWord_eq]
      rfl
  all_goals
    rw [exec_busTransaction rfl rfl, captured hn]
    rfl

/-! ## Orphans -/

theorem exec_pictureWord {s : State} (hp : PortOpen s) (a : BitVec 24) (p : Rgb (BitVec 10)) :
    exec (.pictureWord a p) s = .next (forwardFull .scan (4 * a.toNat) (pictureWordOf p) s) := by
  rw [exec_busTransaction rfl rfl, arrive_wordWrite hp, forwardWord_full hp (inStore_wordAddress a)]

/-- Settles O35: only in ACTIVE is a picture word in a buffer examined. -/
theorem orphanWordsPassAndCount : Obligations.OrphanWordsPassAndCount := by
  intro a p s c hp hc
  obtain rfl : c = writtenAt (4 * a.toNat) (pictureWordOf p) s := hc
  rw [exec_pictureWord hp]
  refine ⟨fun b o hb ha ho hf => ?_, fun b o hb ha => ?_, fun h => ?_⟩
  · have examined : examinesPicture .scan (pictureWordOf p) s = true := by
      simp [examinesPicture, ha, isPicture_pictureWordOf]
    have other : openBuffer s ≠ some b := by
      intro h
      obtain ⟨f, hs, hfb⟩ := Option.map_eq_some_iff.1 h
      exact hf f hs hfb
    simp only [forwardFull, hb, examined, if_true, pictureWord, if_neg ho, if_neg other]
    simp only [passOrphan, saturatingSucc]
    rfl
  · rw [forwardFull_unseen (.inr (.inr (.inr ⟨b, o, hb, by simp [examinesPicture, ha]⟩))), passWord_full]
  · rw [forwardFull_unseen (by tauto), passWord_full]

end Sys2Proof.Machine
end

section
/-! Report writes in order (R189, R193). -/

namespace Sys2Proof.Machine

/-- R6, R189: a report write completes, and then what waited for it is forwarded. -/
theorem exec_reportWriteComplete {s d : State} {w : ReportWrite} {cells : List (Nat × Word)} {withdrawn : Bool}
    (h : s.port.inProgress = some (.report w cells withdrawn)) (hd : reportWriteDone w cells withdrawn (freePort s) = d)
    (hw : d.port.waiting = s.port.waiting) :
    exec .reportWriteComplete s =
      .next (forwardedInOrder s.port.waiting { d with port := { d.port with waiting := [] } }) := by
  change Host.Outcome.next (reportWriteCompletes s) = _
  rw [reportWriteCompletes, h]
  simp only [hd]
  rw [forwardWaiting_of_waiting hw]

theorem headAfterOldest_cons {s : State} {r : Record} {rest : List Record} (h : s.ring.queue = r :: rest) :
    headAfterOldest s = s.ring.head.advance s.setup.ringSize r.length := by
  simp [headAfterOldest, oldestWords, h, Record.length_words]

/-- Settles O47, by the cases of `reportWriteDone`. -/
theorem reportWritesFollowInOrder : Obligations.ReportWritesFollowInOrder := by
  intro w cells withdrawn s c h hs hr hc hh
  subst hc
  refine ⟨?_, ?_, ?_, ?_, ?_⟩
  · rintro rfl
    have done : reportWriteDone w cells true (freePort s) =
        { s with
          store := writeCells s.store cells
          port := { s.port with
            inProgress := none
            reportRequest := if s.ring.publication = true ∧ s.partState ≠ .unset then some .publication else none } } := by
      have quiet : reportInProgress (freePort s).port = false := rfl
      simp only [reportWriteDone, if_true, requestPublication]
      by_cases hp : s.ring.publication = true ∧ s.partState ≠ .unset
      · rw [if_pos hp, if_pos ⟨hp.1, hp.2, quiet⟩]
        rfl
      · rw [if_neg hp, if_neg (fun h => hp ⟨h.1, h.2.1⟩), ← hr]
        rfl
    rw [exec_reportWriteComplete hs done rfl]
  · rintro rfl rfl
    rw [exec_reportWriteComplete hs rfl rfl]
    simp only [reportWriteDone, afterReportWrite, requestReport, afterRecordWords, List.isEmpty_iff]
    rfl
  · rintro rfl rfl
    rw [exec_reportWriteComplete hs rfl rfl]
    rfl
  · rintro rfl rfl hq
    obtain ⟨r, rest, hq⟩ := List.exists_cons_of_ne_nil hq
    rw [exec_reportWriteComplete hs rfl rfl, hh r rest hq, ← headAfterOldest_cons hq]
    rfl
  · rintro rfl rfl
    rw [exec_reportWriteComplete hs rfl rfl]
    rfl

end Sys2Proof.Machine
end

section
/-! How many parts the reload engine can pass over in one event (R22, R196): never more than the model's bound, so that a
part with no word in the store completes as one that is issued does. -/

namespace Sys2Proof.Machine

/-! ## Items left -/

/-- The items that a table has left to reload. -/
def tableLeft (t : TableId) (p : TableProgress) : Nat := if p.pending then t.count - p.next % t.count else 0

/-- The items that the four tables have left to reload. -/
def itemsLeft (r : PerTable TableProgress) : Nat :=
  tableLeft .gradeList r.gradeList + tableLeft .records r.records + tableLeft .curves r.curves
    + tableLeft .windows r.windows

theorem tableLeft_le (t : TableId) (p : TableProgress) : tableLeft t p ≤ t.count := by
  unfold tableLeft
  split <;> omega

theorem itemsLeft_set (r : PerTable TableProgress) (t : TableId) (p : TableProgress) :
    itemsLeft (r.set t p) + tableLeft t (r.get t) = itemsLeft r + tableLeft t p := by
  cases t <;> simp only [itemsLeft, PerTable.set, PerTable.get] <;> omega

theorem itemsLeft_le (r : PerTable TableProgress) : itemsLeft r ≤ 800 := by
  have hg := tableLeft_le .gradeList r.gradeList
  have hr := tableLeft_le .records r.records
  have hc := tableLeft_le .curves r.curves
  have hw := tableLeft_le .windows r.windows
  simp only [TableId.count] at hg hr hc hw
  unfold itemsLeft
  omega

/-- The progress of the tables once item `ref` is committed (R22). -/
def advanced (ref : ItemRef) (r : PerTable TableProgress) : PerTable TableProgress :=
  r.set ref.table { pending := decide (ref.index + 1 < ref.table.count), next := ref.index + 1 }

theorem installWord0_reload (ref : ItemRef) (s : State) : (installPart ref .word0 s).reload = advanced ref s.reload := by
  simp [installPart, advanceTable, State.withReload, advanced]

theorem index_lt_count (ref : ItemRef) : ref.index < ref.table.count := by
  cases ref with
  | slot i | record i | curve i | window i => exact i.isLt

theorem index_itemAt (t : TableId) (n : Nat) : (itemAt t n).index = n % t.count := by cases t <;> rfl

theorem tableLeft_advanced (ref : ItemRef) :
    tableLeft ref.table { pending := decide (ref.index + 1 < ref.table.count), next := ref.index + 1 } =
      ref.table.count - (ref.index + 1) := by
  unfold tableLeft
  by_cases h : ref.index + 1 < ref.table.count
  · simp [h, Nat.mod_eq_of_lt h]
  · simp [h]
    omega

/-- After the commit of any item at most 799 are left. -/
theorem itemsLeft_advanced_lt (ref : ItemRef) (r : PerTable TableProgress) : itemsLeft (advanced ref r) < 800 := by
  have other : itemsLeft (advanced ref r) < itemsLeft (r.set ref.table { pending := true, next := 0 }) := by
    have h1 := itemsLeft_set r ref.table { pending := decide (ref.index + 1 < ref.table.count), next := ref.index + 1 }
    have h2 := itemsLeft_set r ref.table { pending := true, next := 0 }
    have all : tableLeft ref.table { pending := true, next := 0 } = ref.table.count := by simp [tableLeft]
    have := index_lt_count ref
    rw [tableLeft_advanced] at h1
    unfold advanced
    omega
  exact lt_of_lt_of_le other (itemsLeft_le _)

/-- The commit of the next item to be served leaves one item fewer. -/
theorem itemsLeft_advanced_next {ref : ItemRef} {r : PerTable TableProgress} (h : firstPending r = some ref) :
    itemsLeft (advanced ref r) + 1 = itemsLeft r := by
  rw [firstPending_eq, Option.map_eq_some_iff] at h
  obtain ⟨t, found, rfl⟩ := h
  have pending : (r.get t).pending = true := by simpa using List.find?_some found
  have set := itemsLeft_set r t
    { pending := decide ((r.get t).next % t.count + 1 < t.count), next := (r.get t).next % t.count + 1 }
  have left := tableLeft_advanced (itemAt t (r.get t).next)
  have before : tableLeft t (r.get t) = t.count - (r.get t).next % t.count := by simp [tableLeft, pending]
  have index := index_lt_count (itemAt t (r.get t).next)
  simp only [table_itemAt, index_itemAt] at left index
  simp only [advanced, table_itemAt, index_itemAt]
  omega

/-! ## Parts passed over -/

/-- The parts that the engine can still request from the part `part` of item `ref` on. -/
def partsLeft (ref : ItemRef) (part : ItemPart) (r : PerTable TableProgress) : Nat :=
  match part with
  | .rest => 2 * itemsLeft (advanced ref r) + 2
  | .word0 => 2 * itemsLeft (advanced ref r) + 1

theorem partsLeft_le (ref : ItemRef) (part : ItemPart) (r : PerTable TableProgress) : partsLeft ref part r ≤ 1600 := by
  have := itemsLeft_advanced_lt ref r
  cases part <;> simp only [partsLeft] <;> omega

/-- Each part passed over leaves at least one fewer. -/
theorem partsLeft_following {ref next : ItemRef} {part nextPart : ItemPart} {s : State}
    (h : followingRead ref part (installPart ref part s) = some (next, nextPart)) :
    partsLeft next nextPart (installPart ref part s).reload < partsLeft ref part s.reload := by
  cases part with
  | rest =>
    obtain ⟨rfl, rfl⟩ : ref = next ∧ ItemPart.word0 = nextPart := by simpa [followingRead] using h
    simp [partsLeft, installPart]
  | word0 =>
    simp only [followingRead, installWord0_reload, Option.map_eq_some_iff, Prod.mk.injEq] at h ⊢
    obtain ⟨r, hr, rfl, rfl⟩ := h
    have := itemsLeft_advanced_next hr
    simp only [partsLeft]
    omega

/-- A part with no word in the store completes at once (R22). -/
theorem requestPart_outside {s : State} {ref : ItemRef} {part : ItemPart} (h : partInStore s.setup ref part = false)
    (fuel : Nat) :
    requestPart (fuel + 1) ref part s =
      (followingRead ref part (installPart ref part s)).elim (installPart ref part s) fun x =>
        requestPart fuel x.1 x.2 (installPart ref part s) := by
  simp only [requestPart, h, Bool.false_eq_true, if_false]
  cases followingRead ref part (installPart ref part s) <;> rfl

/-- Fuel for the parts left is enough: more changes nothing. -/
theorem requestPart_enough {n : Nat} {ref : ItemRef} {part : ItemPart} {s : State} (h : partsLeft ref part s.reload ≤ n) :
    requestPart (n + 1) ref part s = requestPart n ref part s := by
  induction n generalizing ref part s with
  | zero => cases part <;> simp [partsLeft] at h
  | succ n ih =>
    cases hin : partInStore s.setup ref part with
    | true => rw [requestPart_inStore hin, requestPart_inStore hin]
    | false =>
      rw [requestPart_outside hin, requestPart_outside hin]
      cases hf : followingRead ref part (installPart ref part s) with
      | none => rfl
      | some x => exact ih (by have := partsLeft_following hf; omega)

/-- R22, R196: a part with no word in the store is not issued and completes in the same event, as a read of it in progress
would. -/
theorem leaveLoading_requestPart_outside {s : State} {ref : ItemRef} {part : ItemPart}
    (h : partInStore s.setup ref part = false) :
    leaveLoading (requestPart reloadParts ref part s) = completeTableRead ref part false s := by
  rw [reloadParts, requestPart_outside h, completeTableRead]
  cases hf : followingRead ref part (installPart ref part s) with
  | none => simp [hf]
  | some x =>
    have enough := partsLeft_following hf
    have bound := partsLeft_le ref part s.reload
    have more : requestPart reloadParts x.1 x.2 (installPart ref part s) = requestPart 1600 x.1 x.2 (installPart ref part s) :=
      requestPart_enough (by omega)
    simp [hf, more]

/-! ## The completion of a table read -/

theorem exec_reloadReadComplete {s : State} {ref : ItemRef} {part : ItemPart} {discard : Bool}
    (h : s.port.inProgress = some (.reload (.item ref part) discard)) :
    exec .reloadReadComplete s = .next (forwardWaiting (completeTableRead ref part discard (freePort s))) := by
  change Host.Outcome.next (reloadReadCompletes s) = _
  rw [reloadReadCompletes, h]

/-- A read in progress with the rest of the state `s` completes as `s` with the port free passes the part over. -/
theorem exec_reloadReadComplete_inProgress {s : State} (ref : ItemRef) (part : ItemPart) (h : s.port.inProgress = none) :
    exec .reloadReadComplete
        { s with port := { s.port with inProgress := some (.reload (.item ref part) false) } } =
      .next (forwardWaiting (completeTableRead ref part false s)) := by
  rw [exec_reloadReadComplete rfl]
  congr 3
  simp only [freePort, State.withPort, ← h]

/-- R196: the part requested after a completed one, when it has a word in the store. -/
theorem leaveLoading_requestPart_inStore {s : State} {ref : ItemRef} {part : ItemPart}
    (h : partInStore s.setup ref part = true) :
    leaveLoading (requestPart reloadParts ref part s) =
      s.withPort { s.port with reloadRequest := some (.item ref part) } := by
  rw [reloadParts, requestPart_inStore h]
  exact leaveLoading_outstanding rfl

/-- R20: with nothing left to read the part leaves LOADING. -/
theorem leaveLoading_idle {s : State} (hr : s.port.reloadRequest = none) (hp : s.port.inProgress = none)
    (hf : firstPending s.reload = none) :
    leaveLoading s =
      { s with partState :=
          if s.partState = .loading then (if s.setup.enable then .active else .standby) else s.partState } := by
  unfold leaveLoading
  split
  · next h => rw [if_pos h.1]; rfl
  · next h => rw [if_neg fun hl => h ⟨hl, hf, reloadOutstanding_idle hr hp⟩]

/-! ## A discarded read -/

theorem resumeReload_pending {s : State} {ref : ItemRef} (hr : s.port.reloadRequest = none)
    (hp : s.port.inProgress = none) (hf : firstPending s.reload = some ref) :
    resumeReload s = leaveLoading (requestPart reloadParts ref .rest s) := by
  simp [resumeReload, requestFirstPending, reloadOutstanding_idle hr hp, hf]

theorem resumeReload_nothing {s : State} (hf : firstPending s.reload = none) : resumeReload s = leaveLoading s := by
  simp [resumeReload, requestFirstPending, hf]

/-- Settles O32: a discarded read only resumes the engine. -/
theorem discardedReadInstallsNothing : Obligations.DiscardedReadInstallsNothing := by
  intro ref part s hs hr
  have run : exec .reloadReadComplete s = .next (forwardWaiting (resumeReload (freePort s))) :=
    exec_reloadReadComplete hs
  refine ⟨fun next hf => ⟨fun hi => ?_, fun hi => ?_⟩, fun hf => ?_⟩
  · rw [run, resumeReload_pending (s := freePort s) hr rfl hf, leaveLoading_requestPart_inStore (by exact hi)]
    rfl
  · rw [run, resumeReload_pending (s := freePort s) hr rfl hf, leaveLoading_requestPart_outside (by exact hi)]
    exact (exec_reloadReadComplete_inProgress (s := freePort s) next .rest rfl).symm
  · rw [run, resumeReload_nothing (by exact hf), leaveLoading_idle (s := freePort s) hr rfl hf]
    rfl

end Sys2Proof.Machine
end

section
/-! The two reads of a table item (R22, R24): what the first stages and what the second commits. -/

namespace Sys2Proof.Machine

/-! ## The first read -/

/-- The shadows once the words `word o`, for the offsets `o` of the list, are staged in item `ref`. -/
def withStagedWords (ref : ItemRef) (l : List Nat) (word : Nat → Word) (x : Shadows) : Shadows :=
  match ref with
  | .slot i => { x with slots := x.slots.set i.val (l.foldl (fun y o => y.stageWord o (word o)) x.slots[i.val]) }
  | .record i => { x with records := x.records.set i.val (l.foldl (fun y o => y.stageWord o (word o)) x.records[i.val]) }
  | .curve i => { x with curves := x.curves.set i.val (l.foldl (fun y o => y.stageWord o (word o)) x.curves[i.val]) }
  | .window i => { x with windows := x.windows.set i.val (l.foldl (fun y o => y.stageWord o (word o)) x.windows[i.val]) }

theorem foldl_stageTableWord (ref : ItemRef) (l : List Nat) (word : Nat → Word) (s : State) :
    l.foldl (fun t o => stageTableWord ref o (word o) t) s = s.withTables (withStagedWords ref l word s.tables) := by
  induction l generalizing s with
  | nil => cases ref <;> simp [withStagedWords, State.withTables]
  | cons o l ih =>
    rw [List.foldl_cons, ih]
    cases ref <;> simp [stageTableWord, withStagedWords, State.withTables]

theorem installRest_staged (ref : ItemRef) (s : State) :
    installRest ref s = s.withTables (withStagedWords ref (partOffsets ref .rest) (reloadWord s ref) s.tables) :=
  foldl_stageTableWord ref _ _ s

/-- R22: the words 1 and up of an item, staged one after the other, are its whole staged copy. -/
theorem foldl_stageWord {n : Nat} (word : Nat → Word) (i : Item n) :
    ((List.range n).map (· + 1)).foldl (fun y o => y.stageWord o (word o)) i =
      { i with staged := Vector.ofFn fun b : Fin n => word (b.val + 1) } := by
  have upTo : ∀ m, ((List.range m).map (· + 1)).foldl (fun y o => y.stageWord o (word o)) i =
      { i with staged := Vector.ofFn fun b : Fin n => if b.val < m then word (b.val + 1) else i.staged[b.val] } := by
    intro m
    induction m with
    | zero =>
      simp only [List.range_zero, List.map_nil, List.foldl_nil, Nat.not_lt_zero, if_false]
      have same : (Vector.ofFn fun b : Fin n => i.staged[b.val]) = i.staged := Vector.ext fun k hk => by simp
      rw [same]
    | succ m ih =>
      rw [List.range_succ, List.map_append, List.foldl_append, ih]
      simp only [List.map_cons, List.map_nil, List.foldl_cons, List.foldl_nil, Item.stageWord, Nat.add_sub_cancel]
      congr 1
      refine Vector.ext fun k hk => ?_
      rw [Vector.getElem_setIfInBounds, Vector.getElem_ofFn, Vector.getElem_ofFn]
      split
      · next h => simp [h]
      · next h => exact if_congr (by simp only; omega) rfl rfl
  rw [upTo n]
  congr 1
  exact Vector.ext fun k hk => by simp

/-- Settles O30: the first read is `installRest`, and the second read is requested or passed over. -/
theorem firstReadStagesTheItem : Obligations.FirstReadStagesTheItem := by
  intro ref s t word hs hw ht
  have words : reloadWord (freePort s) ref = word := funext fun o => by
    rw [hw]
    exact if_congr decide_eq_true_iff rfl rfl
  have installed : installRest ref (freePort s) = freePort t := by
    rw [installRest_staged, words, ht]
    cases ref with
    | slot n | record n | curve n | window n =>
      simp only [withStagedWords, partOffsets, ItemRef.table, TableId.restWords, foldl_stageWord]
      rfl
  have hu : (freePort t).setup = s.setup := by rw [← installed]; simp [freePort]
  have hport : (freePort t).port = { s.port with inProgress := none } := by rw [← installed]; simp [freePort]
  have run : exec .reloadReadComplete s =
      .next (forwardWaiting (leaveLoading (requestPart reloadParts ref .word0 (freePort t)))) := by
    rw [exec_reloadReadComplete hs, completeTableRead, if_neg Bool.false_ne_true]
    simp only [installPart, followingRead, installed]
  refine ⟨fun h0 => ?_, fun h0 => ?_⟩
  · rw [run, leaveLoading_requestPart_inStore (by rw [partInStore_word0, hu, h0]),
      forwardWaiting_of_waiting (ts := s.port.waiting) (by simp [hport])]
    rw [hport]
    rfl
  · rw [run, leaveLoading_requestPart_outside (by rw [partInStore_word0, hu, h0]),
      ← exec_reloadReadComplete_inProgress ref .word0 (by rw [hport])]
    rw [hport]
    rfl

/-! ## The second read -/

/-- R46: the window grade is absent when the window is. -/
theorem windowGrade_eq (w : Word) :
    (if (optional w 31 0 4 : Option (Fin 16)).isSome then (optional w 30 8 8 : Option (Fin 256)) else none) =
      if w.getLsbD 31 = true ∧ w.getLsbD 30 = true then some (Fin.ofNat 256 (w.extractLsb' 8 8).toNat) else none := by
  unfold optional bits bit
  cases w.getLsbD 31
  · rfl
  · exact (if_pos rfl).trans (if_congr (by simp) rfl rfl)

theorem slotFields_eq (w : Word) (st : Vector Word 3) :
    ({ first := w, rest := st } : Committed 3).slotFields =
      { start := (w.extractLsb' 0 24).toInt
        grade := Fin.ofNat 256 (st[0].extractLsb' 0 8).toNat
        profile := Fin.ofNat 32 (st[0].extractLsb' 8 5).toNat
        dissolve := (st[0].extractLsb' 16 8).toNat
        window := if st[1].getLsbD 31 then some (Fin.ofNat 16 (st[1].extractLsb' 0 4).toNat) else none
        windowGrade :=
          if st[1].getLsbD 31 = true ∧ st[1].getLsbD 30 = true then
            some (Fin.ofNat 256 (st[1].extractLsb' 8 8).toNat)
          else none
        holdScd := st[0].getLsbD 31 } := by
  rw [Committed.slotFields]
  simp only []
  rw [windowGrade_eq]
  rfl

/-- R24, R47: what a reload commit of a slot leaves. -/
theorem commitItem_slot (i : Fin 512) (w : Word) (s : State) :
    commitItem true (.slot i) w s =
      (match (s.gradeList.commit true i (w.getLsbD 31)
            ({ first := w, rest := s.tables.slots[i.val].staged } : Committed 3).slotFields).2 with
        | none => id
        | some fault => stage (.fault fault))
        { s with
          tables := { s.tables with
            slots := s.tables.slots.set i.val
              { s.tables.slots[i.val] with committed := some ⟨w, s.tables.slots[i.val].staged⟩ } }
          gradeList := (s.gradeList.commit true i (w.getLsbD 31)
            ({ first := w, rest := s.tables.slots[i.val].staged } : Committed 3).slotFields).1 } := by
  simp only [commitItem, commitSlot, Item.commit, validBit, bit]
  generalize s.gradeList.commit true i (w.getLsbD 31) _ = g
  obtain ⟨l, f⟩ := g
  cases f <;> rfl

/-- Staging neither looks at the port nor changes it (R186). -/
theorem stage_withPort (r : Record) (p : MemoryPort) (s : State) : stage r (s.withPort p) = (stage r s).withPort p := by
  unfold stage
  rw [show queueHasRoom (s.withPort p) = queueHasRoom s from rfl]
  split <;> rfl

/-- R24: a commit neither looks at the port nor changes it. -/
theorem commitItem_withPort (ref : ItemRef) (w : Word) (p : MemoryPort) (s : State) :
    commitItem true ref w (s.withPort p) = (commitItem true ref w s).withPort p := by
  cases ref with
  | slot i =>
    simp only [commitItem, commitSlot]
    rw [show (s.withPort p).gradeList = s.gradeList from rfl, show (s.withPort p).tables = s.tables from rfl]
    generalize s.gradeList.commit true i (validBit w) _ = g
    obtain ⟨l, f⟩ := g
    cases f with
    | none => rfl
    | some f =>
      refine Eq.trans ?_ (stage_withPort (.fault f) p _)
      rfl
  | record i | curve i | window i => rfl

/-- R22, R196: with the next item's words 1 and up past the store, so are all of them. -/
theorem partInStore_rest_outside {u : Setup} {ref : ItemRef} (h : Config.storeBytes ≤ itemAddress u ref 1) :
    partInStore u ref .rest = false := by
  refine List.any_eq_false.2 fun o ho => ?_
  obtain ⟨k, -, rfl⟩ := List.mem_map.1 ho
  have outside : ¬ itemAddress u ref (k + 1) < Config.storeBytes := by
    unfold itemAddress at h ⊢
    omega
  simpa [inStore] using outside

/-- Settles O31: the two facts about the engine's order, and the second read as commit, advance and the read that
follows. -/
theorem secondReadCommitsTheItem : Obligations.SecondReadCommitsTheItem := by
  refine ⟨fun r pre post t => firstPending_of_split, fun r => firstPending_none, ?_⟩
  intro ref s c w f progress hs hr hl hprogress hw hf hc
  have word : reloadWord (freePort s) ref 0 = w := by
    rw [hw]
    exact if_congr decide_eq_true_iff rfl rfl
  have committed : commitItem true ref w s = c := by
    rw [hc]
    cases ref with
    | slot i =>
      rw [hf i _ rfl rfl, ← slotFields_eq]
      exact commitItem_slot i w s
    | record i | curve i | window i => rfl
  obtain ⟨hcr, hcu, hcp⟩ : c.reload = s.reload ∧ c.setup = s.setup ∧ c.partState = s.partState := by
    rw [← committed]
    simp
  have installed : installPart ref .word0 (freePort s) =
      { c with reload := progress, port := { s.port with inProgress := none } } := by
    rw [installPart, word, freePort, commitItem_withPort, committed, advanceTable, hprogress, ← hcr]
    rfl
  refine ⟨fun next hn => ?_, fun hn => ?_⟩
  · have run : exec .reloadReadComplete s = .next (forwardWaiting (leaveLoading (requestPart reloadParts next .rest
        { c with reload := progress, port := { s.port with inProgress := none } }))) := by
      rw [exec_reloadReadComplete hs, completeTableRead, if_neg Bool.false_ne_true]
      simp only [installed, followingRead, hn, Option.map_some]
    refine ⟨fun ha => ?_, fun ha => ?_⟩
    · rw [run, leaveLoading_requestPart_inStore (partInStore_rest (by simpa [hcu] using ha))]
      rfl
    · rw [run, leaveLoading_requestPart_outside (partInStore_rest_outside (by simpa [hcu] using ha)),
        ← exec_reloadReadComplete_inProgress next .rest rfl]
  · rw [exec_reloadReadComplete hs, completeTableRead, if_neg Bool.false_ne_true]
    simp only [installed, followingRead, hn, Option.map_none]
    rw [leaveLoading_idle (s := { c with reload := progress, port := { s.port with inProgress := none } }) hr rfl hn]
    simp only [hcp, hl, if_true, hcu]
    rfl

end Sys2Proof.Machine
end

section
/-! The Footage Counter: perforation edges (R25 to R38), the time-outs (R34, R43, R179), the µs of the time base (R32) and
FRAME PRESET (R31). -/

namespace Sys2Proof.Machine

/-! ## Records staged beside a new footage -/

/-- Staging changes the ring alone (R186). -/
theorem stage_eq_withRing (r : Record) (s : State) : stage r s = s.withRing (stage r s).ring := by
  unfold stage
  split <;> rfl

/-- A TRANSPORT record carries the footage after the event, and joins the queue that stood before it (R36). -/
theorem stageTransport_withFootage (causes : TransportCauses) (g : Footage) (s : State) :
    stageTransport causes (s.withFootage g) =
      (s.withFootage g).withRing
        (stage (.transport
          { causes := causes, transport := g.transport, direction := g.direction, number := g.number
            phase := g.phase }) s).ring := by
  rw [stageTransport, stage_eq_withRing, stage_ring (s := s.withFootage g) (t := s) rfl]
  rfl

/-! ## Perforation edges (R25 to R38) -/

/-- R25: in RUNNING only the guard keeps an edge from being accepted. -/
theorem edgeAccepted_iff (s : State) :
    edgeAccepted s = true ↔ s.footage.transport = .stopped ∨ s.footage.lastEdge = none
      ∨ ∃ t, s.footage.lastEdge = some t ∧ s.setup.perfGuard ≤ (s.footage.clock - t).toNat := by
  unfold edgeAccepted sinceLastEdge
  cases s.footage.transport <;> cases s.footage.lastEdge <;> simp [microseconds]

theorem exec_perfEdge_accepted {s : State} (hr : s.resetAsserted = false) (ha : edgeAccepted s = true) (dir : Direction) :
    exec (.perfEdge dir) s = .next (acceptEdge dir s) := by
  simp [exec, execPerfEdge, perforationEdge, hr, ha]

theorem exec_perfEdge_guarded {s : State} (hr : s.resetAsserted = false) (ha : edgeAccepted s = false) (dir : Direction) :
    exec (.perfEdge dir) s = .next (countGlitch s) := by
  simp [exec, execPerfEdge, perforationEdge, hr, ha]

/-- Settles O41: an edge inside the guard is not accepted. -/
theorem guardedEdgesAreGlitches : Obligations.GuardedEdgesAreGlitches := by
  intro dir s
  refine ⟨fun hr => ?_, fun t hr hrun ht hg => ?_⟩
  · exact congrArg Host.Outcome.next (if_pos hr)
  · have refused : edgeAccepted s = false := by
      simp only [edgeAccepted, sinceLastEdge, hrun, ht, Option.map_some]
      exact decide_eq_false (not_le.2 hg)
    rw [exec_perfEdge_guarded hr refused]
    rfl

/-- R29: an edge is held at the last phase of 999,999 forward and at the first of −99,999 in reverse. -/
theorem edgeHeld_eq (dir : Direction) (ppf : Nat) (f : Footage) :
    edgeHeld dir ppf f = match dir with
      | .forward => decide (f.number = 999999 ∧ f.phase = ppf - 1)
      | .reverse => decide (f.number = -99999 ∧ f.phase = 0) := by
  cases dir <;> exact (Bool.decide_and _ _).symm

/-- R27, R28: the frame number after an edge that is not held. -/
theorem countEdge_number (dir : Direction) (ppf : Nat) (f : Footage) :
    (countEdge dir ppf f).1 = match dir with
      | .forward => if f.phase + 1 = ppf then f.number + 1 else f.number
      | .reverse => if f.phase = 0 then f.number - 1 else f.number := by
  cases dir <;> exact apply_ite Prod.fst _ _ _

/-- R27, R28: the phase after an edge that is not held. -/
theorem countEdge_phase (dir : Direction) (ppf : Nat) (f : Footage) :
    (countEdge dir ppf f).2 = match dir with
      | .forward => if f.phase + 1 = ppf then 0 else f.phase + 1
      | .reverse => if f.phase = 0 then ppf - 1 else f.phase - 1 := by
  cases dir <;> exact apply_ite Prod.snd _ _ _

/-- R32: a start has no interval, and neither has an edge in the µs of the one before. -/
theorem edgeInterval_eq (f : Footage) :
    edgeInterval f =
      if f.transport = .stopped then none
      else match f.lastEdge with
        | some t => if (f.clock - t).toNat = 0 then none else some (f.clock - t).toNat
        | none => none := by
  unfold edgeInterval sinceLastEdge
  cases f.transport <;> cases f.lastEdge <;> rfl

/-- R25, R29: a held edge leaves the number and the phase, and any other edge counts. -/
theorem footageAfterEdge_eq (dir : Direction) (ppf : Nat) (f : Footage) :
    footageAfterEdge dir ppf f =
      { f with
        number := if edgeHeld dir ppf f = true then f.number else (countEdge dir ppf f).1
        phase := if edgeHeld dir ppf f = true then f.phase else (countEdge dir ppf f).2
        limit := edgeHeld dir ppf f, transport := .running, direction := dir, lastEdge := some f.clock
        interval := edgeInterval f } := by
  unfold footageAfterEdge
  cases edgeHeld dir ppf f <;> rfl

/-- R36: no edge is a stop. -/
theorem edgeCauses_any (dir : Direction) (ppf : Nat) (f : Footage) :
    (edgeCauses dir ppf f).any = true ↔ (edgeCauses dir ppf f).start = true
      ∨ (edgeCauses dir ppf f).reversal = true ∨ (edgeCauses dir ppf f).limit = true := by
  simp [edgeCauses, TransportCauses.any, or_assoc]

/-- R38: the divider after an edge that took the footage from `before` to `after`. -/
def speedRequested (before after : Footage) (ppf : Nat) (d : Divider) : Divider :=
  match after.interval with
  | some t => if after.number ≠ before.number then d.request .speed 100000000 (t * ppf) else d
  | none => d

theorem requestSpeed_eq (before after : Footage) (s : State) :
    requestSpeed before after s = s.withDivider (speedRequested before after s.setup.ppf s.divider) := by
  unfold requestSpeed speedRequested
  cases after.interval with
  | none => rfl
  | some t => dsimp only; split <;> rfl

/-- R25: an accepted edge, block by block. -/
theorem acceptEdge_eq {dir : Direction} {s : State} {g : Footage} {causes : TransportCauses}
    (hg : footageAfterEdge dir s.setup.ppf s.footage = g) (hc : edgeCauses dir s.setup.ppf s.footage = causes) :
    acceptEdge dir s =
      { s with
        footage := g
        ring :=
          if causes.any = true then
            (stage (.transport
              { causes := causes, transport := g.transport, direction := g.direction, number := g.number
                phase := g.phase }) s).ring
          else s.ring
        detector := { s.detector with
          reference := if causes.start = true ∨ causes.reversal = true then none else s.detector.reference }
        divider := speedRequested s.footage g s.setup.ppf s.divider } := by
  unfold acceptEdge
  simp only [hg, hc, stageTransport_withFootage, requestSpeed_eq, Bool.or_eq_true]
  by_cases hd : causes.start = true ∨ causes.reversal = true <;> by_cases hs : causes.any = true <;>
    simp only [hd, hs, if_true, if_false] <;> rfl

/-- Settles O42: an accepted edge, with its footage and its causes in the statement's terms. -/
theorem acceptedEdgesCount : Obligations.AcceptedEdgesCount := by
  intro dir s held g causes hr ha hheld hg hc
  have held_eq : edgeHeld dir s.setup.ppf s.footage = held :=
    (edgeHeld_eq dir s.setup.ppf s.footage).trans hheld.symm
  have footage_eq : footageAfterEdge dir s.setup.ppf s.footage = g := by
    have edge := footageAfterEdge_eq dir s.setup.ppf s.footage
    rw [held_eq, countEdge_number, countEdge_phase, edgeInterval_eq] at edge
    exact edge.trans hg.symm
  have causes_eq : edgeCauses dir s.setup.ppf s.footage = causes := by
    rw [hc, ← held_eq]
    rfl
  have any_iff := edgeCauses_any dir s.setup.ppf s.footage
  rw [causes_eq] at any_iff
  rw [exec_perfEdge_accepted hr ((edgeAccepted_iff s).2 ha), acceptEdge_eq footage_eq causes_eq]
  simp only [any_iff]
  subst hg
  rfl

/-! ## Time-outs (R34, R43, R179) -/

theorem stopLimitDue_eq_false_iff (s : State) :
    stopLimitDue s = false ↔ ¬ StopLimitPassed s.setup.stopLimit s.footage := by
  rw [← stopLimitDue_iff, Bool.not_eq_true]

theorem exec_stopLimitExpiry_due {s : State} (h : StopLimitPassed s.setup.stopLimit s.footage) :
    exec .stopLimitExpiry s = .next (expireStopLimit s) :=
  congrArg Host.Outcome.next (if_pos ((stopLimitDue_iff s).2 h))

theorem expireIfDue_notDue {s : State} (h : stopLimitDue s = false) : expireIfDue s = s := by
  simp [expireIfDue, h]

/-- R34, R39: the expiry of the stop limit, block by block. -/
theorem expireStopLimit_eq (s : State) :
    expireStopLimit s =
      { s with
        footage := { s.footage with transport := .stopped, interval := none, speed := none }
        ring := (stage (.transport
          { causes := ⟨false, true, false, false⟩, transport := .stopped, direction := s.footage.direction
            number := s.footage.number, phase := s.footage.phase }) s).ring
        detector := { s.detector with reference := none }
        divider := markStopped s.divider } := by
  rw [← expireStopLimit_ring]
  unfold expireStopLimit
  rw [stageTransport, stage_eq_withRing]
  rfl

theorem cueDue_iff {f : Footage} {c : CuePulse} (h : f.cue = some c) :
    cueDue f = true ↔ c.width ≤ (f.clock - c.start).toNat := by
  simp only [cueDue, h]
  exact decide_eq_true_iff

theorem exec_cuePulseEnd_due {s : State} (h : cueDue s.footage = true) :
    exec .cuePulseEnd s = .next (s.withFootage { s.footage with cue := none }) :=
  congrArg Host.Outcome.next (if_pos h)

theorem endCueIfDue_notDue {s : State} (h : cueDue s.footage = false) : endCueIfDue s = s := by
  simp [endCueIfDue, h]

theorem programDue_iff {s : State} {op : Programming} (h : s.profiles.operation = some op) :
    programDue s = true ↔ op.limit ≤ (s.footage.clock - op.acceptedAt).toNat := by
  simp only [programDue, h]
  exact decide_eq_true_iff

theorem timeOutIfDue_notDue {s : State} (h : programDue s = false) : timeOutIfDue s = s := by
  unfold timeOutIfDue
  split
  · exact if_neg (by simp [h])
  · rfl

/-- R179: the operation that times out leaves its profile with what its cells then hold, and its mark. -/
theorem exec_programTimeout_due {s : State} {op : Programming} (h : s.profiles.operation = some op)
    (hd : programDue s = true) :
    exec .programTimeout s = .next
      (stage (.profileProgrammed op.number .timedOut)
        { s with
          freeCount := s.freeCount + 1
          profiles :=
            { profiles := s.profiles.profiles.set op.number.val
                { s.profiles.profiles[op.number.val] with
                  values := abandonedValues s.freeCount op s.profiles.profiles[op.number.val].values }
              operation := none } }) := by
  change Host.Outcome.next (timeOutIfDue s) = _
  simp only [timeOutIfDue, h, hd, if_true]
  rfl

/-- R179: a verify under way leaves the cells as they are. -/
theorem abandonedValues_verifying {op : Programming} (h : op.phase = .verifying) (drawn : Nat) (old : ProfileValues) :
    abandonedValues drawn op old = old := by
  simp [abandonedValues, h]

/-- Settles O43: each of the three time-outs, due and not due. -/
theorem timeOutsTakeEffectWhenDue : Obligations.TimeOutsTakeEffectWhenDue := by
  intro s
  refine ⟨fun t hr ht hl => ?_, fun h => ?_, fun hc => ?_, fun ho => ?_, fun c hc => ⟨fun hw => ?_, fun hw => ?_⟩,
    fun op ho => ⟨fun hl => ?_, fun hl => ?_⟩⟩
  · rw [exec_stopLimitExpiry_due ⟨hr, t, ht, hl⟩, expireStopLimit_eq]
    rfl
  · refine congrArg Host.Outcome.next (expireIfDue_notDue ((stopLimitDue_eq_false_iff s).2 ?_))
    rintro ⟨hr, t, ht, hl⟩
    rcases h with hs | ⟨e, he, hlt⟩
    · simp [hr] at hs
    · obtain rfl : e = t := Option.some.inj (he.symm.trans ht)
      exact absurd hl (not_le.2 hlt)
  · exact congrArg Host.Outcome.next (endCueIfDue_notDue (by simp [cueDue, hc]))
  · exact congrArg Host.Outcome.next (timeOutIfDue_notDue (by simp [programDue, ho]))
  · exact exec_cuePulseEnd_due ((cueDue_iff hc).2 hw)
  · refine congrArg Host.Outcome.next (endCueIfDue_notDue ?_)
    rw [← Bool.not_eq_true, cueDue_iff hc]
    exact not_le.2 hw
  · exact ⟨_, fun hv => abandonedValues_verifying hv _ _, exec_programTimeout_due ho ((programDue_iff ho).2 hl)⟩
  · refine congrArg Host.Outcome.next (timeOutIfDue_notDue ?_)
    rw [← Bool.not_eq_true, programDue_iff ho]
    exact not_le.2 hl

/-! ## The time base (R32) -/

theorem takeDueTimeouts_nothingDue {s : State} (h : NothingDue s) : takeDueTimeouts s = s := by
  obtain ⟨hstop, hcue, hprogram⟩ := h
  rw [takeDueTimeouts, expireIfDue_notDue hstop, endCueIfDue_notDue hcue, timeOutIfDue_notDue hprogram]

/-- Settles O2: an idle step is a `tick`. -/
theorem idleStepIsOneMicrosecond : Obligations.IdleStepIsOneMicrosecond := by
  intro s hq
  have idle : step s = .next (tick s) := by simp only [step, hq]
  refine ⟨fun hr => ?_, fun hr hd => ?_⟩ <;> rw [idle, tick]
  · rw [if_pos hr]
  · rw [if_neg (by simp [hr]), takeDueTimeouts_nothingDue hd]
    rfl

/-! ## FRAME PRESET (R31) -/

/-- R29: the range of the frame number, written out. -/
theorem boundFrame_eq (n : Int) : boundFrame n = max (-99999) (min 999999 n) := rfl

/-- Settles O20: code 1 reaches `presetFrame`, with the number in bits 23 to 0. -/
theorem framePresetSetsTheCounter : Obligations.FramePresetSetsTheCounter := by
  intro m args s hp hu
  have taken : exec (.framePreset m args) s =
      .next (issueCommand (commandWord 1 args) (capturedAt 1 (commandWord 1 args) s)) :=
    exec_setupWrite_taken hp hu m (k := 1) (by decide) (by decide) _
  have issued : ∀ t, issueCommand (commandWord 1 args) t = presetFrame args.preset.toInt t := by
    intro t
    unfold issueCommand
    rw [commandCodeOf_commandWord, preset_commandWord]
    rfl
  rw [taken, issued, presetFrame, boundFrame_eq]
  rfl

end Sys2Proof.Machine
end

section
/-! The Divider Unit (R39, R133, R138 to R141, R144). -/

namespace Sys2Proof.Machine

/-- R139: in an idle divider a request begins at once. -/
theorem Divider.request_idle {d : Divider} (h : d.inProgress = none) (c : Client) (dividend divisor : Nat) :
    d.request c dividend divisor = { d with inProgress := some { client := c, request := ⟨dividend, divisor, false⟩ } } := by
  simp only [Divider.request, h]

/-- R139: while a division is in progress a request takes its client's slot. -/
theorem Divider.request_busy {d : Divider} (h : d.inProgress ≠ none) (c : Client) (dividend divisor : Nat) :
    d.request c dividend divisor = d.setSlot c (some ⟨dividend, divisor, false⟩) := by
  obtain ⟨v, hv⟩ := Option.ne_none_iff_exists'.1 h
  simp only [Divider.request, hv]

theorem exec_divisionComplete_idle {s : State} (h : s.divider.inProgress = none) : exec .divisionComplete s = .next s := by
  change Host.Outcome.next (divisionCompletes s) = _
  simp only [divisionCompletes, h]

/-- R140, R141: the next division begins, and the quotient goes to its client. -/
theorem exec_divisionComplete {s : State} {v : Division} (h : s.divider.inProgress = some v) :
    exec .divisionComplete s = .next (handQuotient v (s.withDivider s.divider.beginNext)) := by
  change Host.Outcome.next (divisionCompletes s) = _
  simp only [divisionCompletes, h]

/-- R133: a MIX result fills the cache in every case; a waiting record of the same N is served. -/
theorem takeMixResult_eq (divisor quotient : Nat) (s : State) :
    takeMixResult divisor quotient s = s.withMix
      (match s.mix.waiting with
        | some w =>
            if w.length = divisor - 1 then
              { current := (w.j * quotient + 128) / 256, cache := some { length := divisor - 1, step := quotient }
                waiting := none }
            else { s.mix with cache := some { length := divisor - 1, step := quotient } }
        | none => { s.mix with cache := some { length := divisor - 1, step := quotient } }) := by
  unfold takeMixResult
  cases s.mix.waiting with
  | none => rfl
  | some w =>
    dsimp only
    split <;> rfl

/-- R144: a RECIP result is taken for the geometry in use alone. -/
theorem takeRecipResult_eq (divisor quotient : Nat) (s : State) :
    takeRecipResult divisor quotient s = s.withDetector
      (if divisor = cellCount s.setup then { s.detector with recip := some quotient, recipValid := true }
       else s.detector) := by
  unfold takeRecipResult
  split <;> rfl

/-- R39: a SPEED result is taken while the transport runs and no stop came between. -/
theorem takeSpeedResult_eq (stopped : Bool) (quotient : Nat) (s : State) :
    takeSpeedResult stopped quotient s = s.withFootage
      (if s.footage.transport = .running ∧ stopped = false then { s.footage with speed := some (min quotient 65535) }
       else s.footage) := by
  unfold takeSpeedResult
  split <;> rfl

/-- Settles O44: a request by the two states of the divider, and a completion by its client. -/
theorem divisionsServeTheirClients : Obligations.DivisionsServeTheirClients := by
  refine ⟨fun d c dividend divisor => ⟨fun h => Divider.request_idle h c dividend divisor, fun h => ?_⟩, ?_⟩
  · rw [Divider.request_busy h]
    cases c <;> rfl
  · intro s d hd
    have next : s.divider.beginNext = d := by
      rw [hd]
      rfl
    refine ⟨exec_divisionComplete_idle, fun v q hv hq => ?_⟩
    have served : ∀ t, handQuotient v (s.withDivider s.divider.beginNext) = t → exec .divisionComplete s = .next t :=
      fun t ht => (exec_divisionComplete hv).trans (congrArg Host.Outcome.next ht)
    refine ⟨fun hc => served _ ?_, fun hc => served _ ?_, fun hc => served _ ?_⟩ <;>
      simp only [handQuotient, hc, next, ← hq]
    · rw [takeMixResult_eq]
      rfl
    · rw [takeRecipResult_eq]
      rfl
    · rw [takeSpeedResult_eq]
      rfl

end Sys2Proof.Machine
end

section
/-! The Frame Tracker at the close of a frame (R99, R106 to R108). -/

namespace Sys2Proof.Machine

/-- R106, R108: the summary joins the queue or is lost, and the counts that a kept one carries become 0. -/
theorem stageSummary_eq (f : OpenFrame) (o : DetectorOutcome) (s : State) :
    stageSummary f o s =
      { s with
        tracker := { s.tracker with
          orphans := if f.setup.summaryEnable = true ∧ s.ring.queue.length < 8 then 0 else s.tracker.orphans }
        footage := { s.footage with
          glitches := if f.setup.summaryEnable = true ∧ s.ring.queue.length < 8 then 0 else s.footage.glitches }
        ring :=
          if f.setup.summaryEnable = true then
            (if s.ring.queue.length < 8 then
              { s.ring with queue := s.ring.queue ++ [.frameSummary (summaryOf f o s)], lost := 0 }
             else { s.ring with lost := min (s.ring.lost + 1) 65535 })
          else s.ring } := by
  unfold stageSummary
  by_cases he : f.setup.summaryEnable = true
  · by_cases hq : s.ring.queue.length < 8
    · simp only [stage, queueHasRoom, he, hq, decide_true, and_self, if_true]
      rfl
    · simp only [stage, queueHasRoom, he, hq, decide_false, and_false, if_true, if_false, Bool.false_eq_true]
      rfl
  · simp only [he, false_and, if_false, Bool.false_eq_true]

/-- R99: a frame that does not close COMPLETE closes with TRUNCATED set. -/
theorem closeOpenFrame_eq (complete : Bool) (f : OpenFrame) (s : State) {g : OpenFrame}
    (hg : g = { f with flags := { f.flags with truncated := f.flags.truncated || !complete } }) :
    closeOpenFrame complete f s =
      endMixWait ((stageSummary g (judgeFrame g complete s).2 (judgeFrame g complete s).1).withTracker
        { (stageSummary g (judgeFrame g complete s).2 (judgeFrame g complete s).1).tracker with openFrame := none }) := by
  have closing : (if complete then f else { f with flags := { f.flags with truncated := true } }) = g := by
    rw [hg]
    cases complete <;> simp
  unfold closeOpenFrame
  simp only [closing]

/-- Settles O38: a close is the judgement, `stageSummary_eq` and the emptied context. -/
theorem closeStagesTheSummary : Obligations.CloseStagesTheSummary := by
  refine ⟨fun complete s h => closeFrame_none h complete, fun complete f s c g r hf hg hc hr => ?_⟩
  have closed : closeFrame complete s = closeOpenFrame complete f s := by simp only [closeFrame, hf]
  have summary : summaryOf g (judgeFrame g complete s).2 c = r := by
    rw [hr, hc, hg]
    simp [summaryOf]
  have enable : g.setup.summaryEnable = f.setup.summaryEnable := by rw [hg]
  obtain ⟨mix, tracker, footage⟩ : c.mix = s.mix ∧ c.tracker = s.tracker ∧ c.footage = s.footage := by simp [hc]
  rw [closed, closeOpenFrame_eq complete f s hg, ← hc, stageSummary_eq, summary, enable, endMixWait]
  simp only [← mix, ← tracker, ← footage]
  rfl

end Sys2Proof.Machine
end

section
/-! The Frame Tracker at the open of a frame, and the frame's first word (R92 to R95). -/

namespace Sys2Proof.Machine

/-! ## What an open takes from each block (R93, R94) -/

/-- R78, R79, R174: a lane after its latch and its load, with the flags GRADE_MISSING, PROFILE_HELD and PROFILE_BAD. -/
def laneOpening (s : State) (record : Fin 256) (window : Option (Fin 16)) (windowRecord : Option (Fin 256)) (n : Fin 32)
    (h : HeldProfile) : Lane × Bool × Bool × Bool :=
  ({ latch := some (latchLane s.tables record window windowRecord).1, held := (loadProfile s.profiles n h).held },
   (latchLane s.tables record window windowRecord).2, (loadProfile s.profiles n h).profileHeld,
   (loadProfile s.profiles n h).profileBad)

/-- R78: the IN lane follows the covering entry, or the defaults. -/
def incomingOpening (s : State) : Lookup → Lane × Bool × Bool × Bool
  | .noEntry => laneOpening s s.setup.defaultRecord none none s.setup.defaultProfile s.lanes.incoming.held
  | .covered e _ | .dissolve e _ _ _ =>
      laneOpening s e.fields.grade e.fields.window e.fields.windowGrade e.fields.profile s.lanes.incoming.held

/-- R78, R94: the OUT lane follows the outgoing entry, and outside a dissolve latches nothing. -/
def outgoingOpening (s : State) : Lookup → Lane × Bool × Bool × Bool
  | .noEntry | .covered _ _ => ({ s.lanes.outgoing with latch := none }, false, false, false)
  | .dissolve _ _ o _ =>
      laneOpening s o.fields.grade o.fields.window o.fields.windowGrade o.fields.profile s.lanes.outgoing.held

theorem openLanes_eq (s : State) (l : Lookup) :
    openLanes s l =
      { lanes := ⟨(incomingOpening s l).1, (outgoingOpening s l).1⟩
        gradeMissing := (incomingOpening s l).2.1 || (outgoingOpening s l).2.1
        profileHeld := (incomingOpening s l).2.2.1 || (outgoingOpening s l).2.2.1
        profileBad := (incomingOpening s l).2.2.2 || (outgoingOpening s l).2.2.2 } := by
  cases l with
  | noEntry | covered e a =>
    simp only [openLanes, Lookup.outEntry, outgoingOpening, Bool.or_false]
    rfl
  | dissolve e a o j => rfl

/-- R130 to R132: the Mix Stage, the divider and MIX_LATE after an open. -/
def mixOpening (m : MixStage) (d : Divider) : Lookup → MixStage × Divider × Bool
  | .noEntry | .covered _ _ => ({ m with current := 256, waiting := none }, d, false)
  | .dissolve e _ _ j =>
      if ∃ q, m.cache = some q ∧ q.length = e.fields.dissolve then
        ({ m with current := (j * (m.cache.getD ⟨0, 0⟩).step + 128) / 256, waiting := none }, d, false)
      else
        ({ m with waiting := some { length := e.fields.dissolve, j := j } },
         d.request .mix 65536 (e.fields.dissolve + 1), true)

theorem prepareMix_eq (l : Lookup) (s : State) :
    prepareMix l s =
      ((s.withMix (mixOpening s.mix s.divider l).1).withDivider (mixOpening s.mix s.divider l).2.1,
       (mixOpening s.mix s.divider l).2.2) := by
  cases l with
  | noEntry | covered e a => rfl
  | dissolve e a o j =>
    simp only [prepareMix, mixOpening]
    cases s.mix.cache with
    | none =>
      rw [if_neg (by simp)]
      rfl
    | some q =>
      by_cases hq : q.length = e.fields.dissolve
      · rw [if_pos ⟨q, rfl, hq⟩]
        simp only [if_pos hq]
        rfl
      · rw [if_neg (by simpa using hq)]
        simp only [if_neg hq]
        rfl

/-- R42: the CUE decision starts a pulse, or leaves what there was of one. -/
theorem decideCue_eq (l : Lookup) (t : TransportState) (d : Direction) (s : State) :
    decideCue l t d s = s.withFootage { s.footage with
      cue :=
        if l.atStart = true ∧ t = .running ∧ d = .forward ∧ 1 ≤ s.setup.cueWidth then
          some { start := s.footage.clock, width := s.setup.cueWidth }
        else s.footage.cue } := by
  unfold decideCue
  split <;> rfl

/-- R151: an open clears every cell's sum. -/
theorem clearSums_eq (s : State) : clearSums s = s.withDetector { s.detector with sums := Vector.replicate 384 0 } := rfl

/-- R93, R94: an open, block by block. -/
theorem openAfterClose_eq (b : Fin 4) {s : State} {l : Lookup}
    (hl : lookup (openingNumber s) s.gradeList.ordered = l) :
    openAfterClose b s =
      { s with
        lanes := ⟨(incomingOpening s l).1, (outgoingOpening s l).1⟩
        mix := (mixOpening s.mix s.divider l).1
        divider := (mixOpening s.mix s.divider l).2.1
        footage := { s.footage with
          cue :=
            if l.atStart = true ∧ s.footage.transport = .running ∧ s.footage.direction = .forward
                ∧ 1 ≤ s.setup.cueWidth
            then some { start := s.footage.clock, width := s.setup.cueWidth } else s.footage.cue }
        tracker := { s.tracker with
          openFrame := some (openingContext b l (openLanes s l) (mixOpening s.mix s.divider l).2.2 s) }
        detector := { s.detector with sums := Vector.replicate 384 0 } } := by
  have lanes : (openLanes s l).lanes = ⟨(incomingOpening s l).1, (outgoingOpening s l).1⟩ := by rw [openLanes_eq]
  simp only [openAfterClose, hl, prepareMix_eq, decideCue_eq, clearSums_eq, lanes]
  simp only [State.withMix, State.withDivider, State.withLanes, State.withTracker, State.withDetector,
    State.withFootage]
  rfl

/-! ## Grading a word (R95, R104, R150) -/

/-- R104: what a graded word adds to the counts of its frame. -/
theorem countGraded_eq (f : OpenFrame) (v : Rgb Int) :
    countGraded f v =
      { f with
        wordsGraded := min (f.wordsGraded + 1) 16777215
        clipLow :=
          if f.setup.legalEnable = true ∧ (v.r < f.setup.legalLo ∨ v.g < f.setup.legalLo ∨ v.b < f.setup.legalLo)
          then min (f.clipLow + 1) 16777215 else f.clipLow
        clipHigh :=
          if f.setup.legalEnable = true ∧ (f.setup.legalHi < v.r ∨ f.setup.legalHi < v.g ∨ f.setup.legalHi < v.b)
          then min (f.clipHigh + 1) 16777215 else f.clipHigh } := by
  simp only [countGraded, clippedLow, clippedHigh, saturatingSucc, Bool.and_eq_true, Bool.or_eq_true,
    decide_eq_true_eq, or_assoc]

/-- R150: the cell sums after a word of frame `f` whose stage-1 values are `p`. -/
def sumsAfterWord (f : OpenFrame) (u : Setup) (x y : Nat) (p : Rgb Int) (sums : Vector Nat 384) : Vector Nat 384 :=
  if f.substitution = .none then
    match cellOf u x y with
    | some c => sums.setIfInBounds c (min ((sums[c]?).getD 0 + (luma p).toNat) 16777215)
    | none => sums
  else sums

theorem handToDetector_eq (f : OpenFrame) (x y : Nat) (v : Rgb Int) (s : State) :
    handToDetector f x y v s = s.withDetector { s.detector with
      sums := sumsAfterWord f s.setup x y (profileStage s.lanes.incoming.held.values v) s.detector.sums } := by
  unfold handToDetector sumsAfterWord
  cases f.substitution with
  | none =>
    simp only [accumulate, if_true]
    cases cellOf s.setup x y <;> rfl
  | flat | bars => rfl

/-- R95: a graded picture word, block by block. -/
theorem gradeWord_eq (f : OpenFrame) (a o : Nat) (p : Rgb (BitVec 10)) (s : State) {px v : Rgb Int}
    (hpx : px = ⟨p.r.toNat, p.g.toNat, p.b.toNat⟩)
    (hv : v = formedChannels f (o % s.setup.width) (o / s.setup.width) px s) :
    gradeWord f a o (pictureWordOf p) s =
      { s with
        store := writeWord s.store a (gradedWord (legalClamp f.setup v))
        tracker := { s.tracker with openFrame := some (countGraded f v) }
        detector := { s.detector with
          sums := sumsAfterWord f s.setup (o % s.setup.width) (o / s.setup.width)
            (profileStage s.lanes.incoming.held.values px) s.detector.sums } } := by
  have pixel : pixelOf (pictureWordOf p) = px := by
    rw [pixelOf, channels_pictureWordOf, hpx]
  simp only [gradeWord, pixel, ← hv, handToDetector_eq]
  rfl

/-- R112: stage 1 leaves a channel in 0 to 1,023. -/
theorem profileChannel_range (inv : Bool) (b : BitVec 10) (k : BitVec 12) (x : Int) :
    0 ≤ profileChannel inv b k x ∧ profileChannel inv b k x ≤ 1023 :=
  ⟨le_max_left _ _, max_le (by decide) (min_le_left _ _)⟩

/-- R112, R118: the luma of stage-1 values is at most 1,023. -/
theorem luma_profileStage_le (k : ProfileValues) (px : Rgb Int) : (luma (profileStage k px)).toNat ≤ 1023 := by
  have hr := profileChannel_range k.invert k.base.r k.scale.r px.r
  have hg := profileChannel_range k.invert k.base.g k.scale.g px.g
  have hb := profileChannel_range k.invert k.base.b k.scale.b px.b
  unfold luma roundDiv profileStage
  dsimp only
  omega

/-! ## The first word of a frame -/

/-- R149: the first word lies in cell 0 where the cells have an extent. -/
theorem cellOf_first (u : Setup) :
    cellOf u 0 0 = if 0 < u.width / 24 ∧ 0 < u.height / 16 then some 0 else none := by
  simp [cellOf, cellWidth, cellHeight]

/-- R150, R151: the first word finds every sum 0, and its luma is far from the sum's top. -/
theorem sumsAfterWord_first (f : OpenFrame) (u : Setup) {p : Rgb Int} (hp : (luma p).toNat ≤ 1023) :
    sumsAfterWord f u 0 0 p (Vector.replicate 384 0) =
      if f.substitution = .none ∧ 0 < u.width / 24 ∧ 0 < u.height / 16 then
        (Vector.replicate 384 0).set 0 (luma p).toNat
      else Vector.replicate 384 0 := by
  unfold sumsAfterWord
  rw [cellOf_first]
  by_cases hs : f.substitution = .none
  · by_cases hc : 0 < u.width / 24 ∧ 0 < u.height / 16
    · have small : min (0 + (luma p).toNat) 16777215 = (luma p).toNat := by omega
      simp only [hs, hc, and_self, if_true]
      rw [show ((Vector.replicate 384 0)[0]?).getD 0 = 0 from by simp, small]
      exact Vector.ext fun i hi => by simp [Vector.getElem_set, Vector.getElem_setIfInBounds]
    · simp only [hs, hc, and_false, if_true, if_false]
  · simp only [hs, false_and, if_false]

/-- R95: the first word of a frame counts 1, and 1 where the clamp acts on it. -/
theorem countGraded_first {f : OpenFrame} (hw : f.wordsGraded = 0) (hl : f.clipLow = 0) (hh : f.clipHigh = 0) (v : Rgb Int) :
    countGraded f v =
      { f with
        wordsGraded := 1
        clipLow :=
          if f.setup.legalEnable = true ∧ (v.r < f.setup.legalLo ∨ v.g < f.setup.legalLo ∨ v.b < f.setup.legalLo)
          then 1 else 0
        clipHigh :=
          if f.setup.legalEnable = true ∧ (f.setup.legalHi < v.r ∨ f.setup.legalHi < v.g ∨ f.setup.legalHi < v.b)
          then 1 else 0 } := by
  rw [countGraded_eq, hw, hl, hh]
  rfl

theorem gradeInOpenFrame_open {s : State} {f : OpenFrame} (h : s.tracker.openFrame = some f) (a o : Nat) (w : Word) :
    gradeInOpenFrame a o w s = gradeWord f a o w s := by
  simp only [gradeInOpenFrame, h]

/-- R92 to R95: a picture word at offset 0, with `c` the part after the close that the open begins with. -/
theorem pictureWord_first (b : Fin 4) (a : Nat) (p : Rgb (BitVec 10)) {s c : State} {l : Lookup} {f : OpenFrame}
    {px v : Rgb Int} (hc : c = closeFrame false s) (hl : lookup (openingNumber c) c.gradeList.ordered = l)
    (hf : openingContext b l (openLanes c l) (mixOpening c.mix c.divider l).2.2 c = f)
    (hpx : px = ⟨p.r.toNat, p.g.toNat, p.b.toNat⟩)
    (hv : v = formedChannels f 0 0 px
      { c with
        lanes := ⟨(incomingOpening c l).1, (outgoingOpening c l).1⟩
        mix := (mixOpening c.mix c.divider l).1 }) :
    pictureWord b a 0 (pictureWordOf p) s =
      { c with
        store := writeWord c.store a (gradedWord (legalClamp f.setup v))
        lanes := ⟨(incomingOpening c l).1, (outgoingOpening c l).1⟩
        mix := (mixOpening c.mix c.divider l).1
        divider := (mixOpening c.mix c.divider l).2.1
        footage := { c.footage with
          cue :=
            if l.atStart = true ∧ c.footage.transport = .running ∧ c.footage.direction = .forward
                ∧ 1 ≤ c.setup.cueWidth
            then some { start := c.footage.clock, width := c.setup.cueWidth } else c.footage.cue }
        tracker := { c.tracker with openFrame := some (countGraded f v) }
        detector := { c.detector with
          sums := sumsAfterWord f c.setup 0 0 (profileStage (incomingOpening c l).1.held.values px)
            (Vector.replicate 384 0) } } := by
  rw [pictureWord, if_pos rfl, openFrame, ← hc, openAfterClose_eq b hl, hf, gradeInOpenFrame_open rfl,
    gradeWord_eq f a 0 p _ hpx (v := v) (by rw [hv, Nat.zero_mod, Nat.zero_div]; rfl)]
  simp only [Nat.zero_mod, Nat.zero_div]

/-! ## The context of an open in the statement's terms (R90, R101) -/

theorem boundFrame_neg (n : Int) : boundFrame n < 0 ↔ n < 0 := by
  rw [boundFrame_eq]
  omega

/-- R101, R105: a frame is substituted in FLAT and BARS, and in LEADER where its number lies below 0. -/
theorem substituted_eq (mode : SubstitutionMode) (n : Int) :
    decide (substitutionFor mode (boundFrame n) ≠ .none) = decide (mode ≠ .off ∧ (mode = .leader → n < 0)) := by
  cases mode with
  | off | flat | bars => simp [substitutionFor]
  | leader => simp [substitutionFor, boundFrame_neg]

/-- R99: a close leaves the setup values, the shadows, the profiles and the lanes to the open that follows. -/
theorem closeFrame_openings (s : State) (l : Lookup) :
    incomingOpening (closeFrame false s) l = incomingOpening s l
      ∧ outgoingOpening (closeFrame false s) l = outgoingOpening s l := by
  cases l <;> simp [incomingOpening, outgoingOpening, laneOpening]

/-- Settles O37: `pictureWord_first`, with the state after the close read back to the state before it. -/
theorem offsetZeroOpensAFrame : Obligations.OffsetZeroOpensAFrame := by
  intro a p b s c l hp hactive hplace hc hl lane i o hlane hi ho mix divider late hmix f v hf hv
  obtain rfl : lane = laneOpening s := by
    funext record window windowRecord n h
    exact hlane record window windowRecord n h
  obtain ⟨openIn, openOut⟩ := closeFrame_openings s l
  have incoming : incomingOpening c l = i := by
    rw [hc, openIn, hi]
    cases l <;> rfl
  have outgoing : outgoingOpening c l = o := by
    rw [hc, openOut, ho]
    cases l <;> rfl
  have mixed : mixOpening c.mix c.divider l = (mix, divider, late) := by
    rw [hmix]
    cases l <;> rfl
  obtain ⟨number, transport, direction, speed, clock, cue⟩ : c.footage.number = s.footage.number
      ∧ c.footage.transport = s.footage.transport ∧ c.footage.direction = s.footage.direction
      ∧ c.footage.speed = s.footage.speed ∧ c.footage.clock = s.footage.clock ∧ c.footage.cue = s.footage.cue := by
    rw [hc, closeFrame_footage]
    exact ⟨rfl, rfl, rfl, rfl, rfl, rfl⟩
  obtain ⟨setup, store, ordered⟩ : c.setup = s.setup ∧ c.store = s.store ∧ c.gradeList = s.gradeList := by simp [hc]
  have found : lookup (openingNumber c) c.gradeList.ordered = l := by
    rw [openingNumber, number, setup, ordered, boundFrame_eq, hl]
  have context : openingContext b l (openLanes c l) (mixOpening c.mix c.divider l).2.2 c = f := by
    rw [hf, openLanes_eq, incoming, outgoing, mixed]
    simp only [openingContext, openingNumber, number, transport, direction, speed, setup, substituted_eq]
    cases s.setup.frame.mode <;> rfl
  have examined : examinesPicture .scan (pictureWordOf p) s = true := by
    simp [examinesPicture, hactive, isPicture_pictureWordOf]
  obtain ⟨hsetup, hw, hlow, hhigh⟩ : f.setup = s.setup.frame ∧ f.wordsGraded = 0 ∧ f.clipLow = 0 ∧ f.clipHigh = 0 := by
    rw [hf]
    exact ⟨rfl, rfl, rfl, rfl⟩
  have word := pictureWord_first b (4 * a.toNat) p hc found context rfl (v := v) (by rw [hv, incoming, outgoing, mixed])
  rw [incoming, outgoing, mixed, countGraded_first hw hlow hhigh,
    sumsAfterWord_first f c.setup (luma_profileStage_le _ _), hsetup] at word
  rw [exec_pictureWord hp]
  simp only [forwardFull, hplace, examined, if_true, word]
  simp only [transport, direction, clock, cue, setup, store, hsetup]

end Sys2Proof.Machine
end

section
/-! The ordered list (R48 to R54): the entry that holds a start frame, and what the GLI's handling of one slot commit answers
and keeps. -/

namespace Sys2Proof.Machine

/-! ## Lists in start-frame order -/

/-- R48: strictly increasing order of start frame. -/
abbrev InStartOrder (l : List Entry) : Prop := l.Pairwise (fun a b => a.fields.start < b.fields.start)

theorem InStartOrder.eq_of_start_eq {l : List Entry} (hl : InStartOrder l) {a b : Entry} (ha : a ∈ l) (hb : b ∈ l)
    (h : a.fields.start = b.fields.start) : a = b :=
  List.inj_on_of_nodup_map (List.pairwise_map.2 (hl.imp ne_of_lt)) ha hb h

theorem holderOf_eq_none {n : Int} {l : List Entry} : holderOf n l = none ↔ ∀ x ∈ l, x.fields.start ≠ n := by
  simp [holderOf]

theorem holderOf_eq_some {n : Int} {l : List Entry} (hl : InStartOrder l) {h : Entry} :
    holderOf n l = some h ↔ h ∈ l ∧ h.fields.start = n := by
  constructor
  · intro hh
    exact ⟨List.mem_of_find?_eq_some hh, by simpa using List.find?_some hh⟩
  · rintro ⟨hm, hn⟩
    cases hf : holderOf n l with
    | none => exact absurd hn (holderOf_eq_none.1 hf h hm)
    | some x =>
      have hx : x.fields.start = n := by simpa using List.find?_some hf
      rw [hl.eq_of_start_eq (List.mem_of_find?_eq_some hf) hm (hx.trans hn.symm)]

theorem startInRange_iff {n : Int} : startInRange n = true ↔ 0 ≤ n ∧ n ≤ 999999 := by
  simp [startInRange]

/-! ## The outcomes of a slot commit (R49 to R54) -/

/-- R49: the GLI without a slot's entry. -/
def GradeList.without (g : GradeList) (i : Fin 512) : GradeList := { g with ordered := removeSlot i g.ordered }

theorem mem_without {g : GradeList} {i : Fin 512} {x : Entry} :
    x ∈ (g.without i).ordered ↔ x ∈ g.ordered ∧ x.slot ≠ i := mem_removeSlot i x g.ordered

section Outcomes

variable (g : GradeList) (byReload : Bool) (i : Fin 512) (f : SlotFields)

/-- R50: a slot whose valid bit is 0. -/
theorem commit_invalid : g.commit byReload i false f = ((g.without i).mark i .invalid, none) := rfl

variable {f}

/-- R51: a start frame that is not accepted. -/
theorem commit_startOutOfRange (hr : ¬ (0 ≤ f.start ∧ f.start ≤ 999999)) :
    g.commit byReload i true f = ((g.without i).mark i .conflict, some (.startRange i)) := by
  rw [← startInRange_iff] at hr
  simp only [GradeList.commit, if_true, if_neg hr]
  rfl

variable {g i} (hr : 0 ≤ f.start ∧ f.start ≤ 999999)
include hr

/-- R54: a start frame that no other entry holds. -/
theorem commit_free (hf : ∀ x ∈ (g.without i).ordered, x.fields.start ≠ f.start) :
    g.commit byReload i true f = ((g.without i).insert i f, none) := by
  have free : holderOf f.start (removeSlot i g.ordered) = none := holderOf_eq_none.2 hf
  simp only [GradeList.commit, if_true, if_pos (startInRange_iff.2 hr), free]
  rfl

variable {h : Entry} (hg : InStartOrder g.ordered) (hm : h ∈ (g.without i).ordered) (hs : h.fields.start = f.start)
include hg hm hs

/-- R53: a reload commit displaces a holder of a higher slot number. -/
theorem commit_displaces (hlt : i.val < h.slot.val) :
    g.commit true i true f =
      ((((g.without i).mark h.slot .conflict).without h.slot).insert i f, some (.dupStart h.slot i)) := by
  have held : holderOf f.start (removeSlot i g.ordered) = some h := (holderOf_eq_some (hg.filter _)).2 ⟨hm, hs⟩
  simp only [GradeList.commit, if_true, if_pos (startInRange_iff.2 hr), held, Bool.true_and, decide_eq_true hlt]
  rfl

/-- R52, R53: a captured commit, and a reload commit of a slot number not below the holder's, loses. -/
theorem commit_loses (hlt : ¬ (byReload = true ∧ i.val < h.slot.val)) :
    g.commit byReload i true f = ((g.without i).mark i .conflict, some (.dupStart i h.slot)) := by
  have held : holderOf f.start (removeSlot i g.ordered) = some h := (holderOf_eq_some (hg.filter _)).2 ⟨hm, hs⟩
  have kept : (byReload && decide (i.val < h.slot.val)) = false := by simpa using hlt
  simp only [GradeList.commit, if_true, if_pos (startInRange_iff.2 hr), held, kept]
  rfl

end Outcomes

/-- R54: the list after an insertion is in order, and holds the new entry beside the old ones. -/
theorem insert_ordered {g : GradeList} {i : Fin 512} {f : SlotFields} (hg : InStartOrder g.ordered)
    (hf : ∀ x ∈ g.ordered, x.fields.start ≠ f.start) :
    InStartOrder (g.insert i f).ordered
      ∧ ∀ x, x ∈ (g.insert i f).ordered ↔ x ∈ g.ordered ∨ x = { slot := i, fields := f } :=
  ⟨pairwise_insertEntry hg hf, fun x => (mem_insertEntry _ x _).trans Or.comm⟩

/-- R52: with the holder of a start frame gone, no entry of an ordered list holds it. -/
theorem start_ne_of_mem_without {g : GradeList} (hg : InStartOrder g.ordered) {h : Entry} (hm : h ∈ g.ordered) :
    ∀ x ∈ (g.without h.slot).ordered, x.fields.start ≠ h.fields.start := by
  intro x hx hs
  obtain ⟨hx, hne⟩ := mem_without.1 hx
  exact hne (congrArg Entry.slot (hg.eq_of_start_eq hx hm hs))

/-- Settles O33: the outcomes of `GradeList.commit` one by one. -/
theorem reloadCommitKeepsTheLowestSlot : Obligations.ReloadCommitKeepsTheLowestSlot := by
  rintro g i f removed hg rfl
  have order : InStartOrder (g.without i).ordered := hg.filter _
  refine ⟨fun byReload => ⟨commit_invalid g byReload i f, fun hr => commit_startOutOfRange g byReload i hr,
    fun h0 h1 hf => ⟨_, commit_free byReload ⟨h0, h1⟩ hf, insert_ordered order hf⟩⟩, ?_⟩
  intro h hm hs h0 h1
  refine ⟨fun hlt => ?_, fun hlt => ?_⟩
  · rw [commit_displaces ⟨h0, h1⟩ hg hm hs hlt]
    obtain ⟨sorted, members⟩ := insert_ordered (g := ((g.without i).mark h.slot .conflict).without h.slot) (i := i)
      (f := f) (order.filter _) (hs ▸ start_ne_of_mem_without (g := (g.without i).mark h.slot .conflict) order hm)
    exact ⟨rfl, rfl, sorted, fun e => (members e).trans (or_congr_left mem_without)⟩
  · rw [commit_loses true ⟨h0, h1⟩ hg hm hs (by omega)]
    exact ⟨rfl, rfl⟩

/-! ## A captured slot commit -/

/-- R24, R47: what a slot commit leaves, in terms of what the GLI answers. -/
theorem commitSlot_eq {byReload : Bool} {i : Fin 512} {w : Word} {s : State} {valid : Bool} {g : GradeList}
    {fault : Option FaultReport} (hv : w.getLsbD 31 = valid)
    (h : s.gradeList.commit byReload i valid
      ({ first := w, rest := s.tables.slots[i.val].staged } : Committed 3).slotFields = (g, fault)) :
    commitSlot byReload i w s =
      (fault.elim id fun x => stage (.fault x))
        { s with
          tables := { s.tables with
            slots := s.tables.slots.set i.val
              { s.tables.slots[i.val] with committed := some ⟨w, s.tables.slots[i.val].staged⟩ } }
          gradeList := g } := by
  simp only [commitSlot, Item.commit, validBit, bit, hv, h]
  cases fault <;> rfl

/-- R4, R47: a full write of a slot's word 0 passes and commits the slot. -/
theorem exec_slotCommit {s : State} (hp : PortOpen s) {i : Fin 512} (hr : ReachesItem (.slot i) 0 s) (m : Master)
    (w : Word) :
    exec (.slotCommit m i w) s = .next (commitSlot false i w (writtenAt (itemAddress s.setup (.slot i) 0) w s)) :=
  (exec_busTransaction rfl rfl).trans (congrArg _ (arriveTableWord_open hp m hr w))

/-- Settles O29: the word reaches `commitSlot`, and the GLI answers one of its outcomes. -/
theorem slotCommitPlacesTheSlot : Obligations.SlotCommitPlacesTheSlot := by
  rintro m i w s removed st t hp hreach ⟨hg, -⟩ rfl rfl rfl
  have run := fun {valid g fault} (hv : w.getLsbD 31 = valid) h =>
    (exec_slotCommit hp hreach m w).trans (congrArg Host.Outcome.next (commitSlot_eq (g := g) (fault := fault) hv h))
  refine ⟨fun hv => run hv (commit_invalid s.gradeList false i _),
    fun hv hr => run hv (commit_startOutOfRange s.gradeList false i hr),
    fun hv h0 h1 => ⟨fun h hm hs => ?_, fun hf => ?_⟩⟩
  · exact run hv (commit_loses (g := s.gradeList) false ⟨h0, h1⟩ hg hm hs (by simp))
  · refine ⟨_, run hv (commit_free (g := s.gradeList) false ⟨h0, h1⟩ hf), ?_⟩
    rw [← slotFields_eq]
    exact insert_ordered (g := s.gradeList.without i) (hg.filter _) hf

end Sys2Proof.Machine
end

section
/-! The lookup at a frame open (R60 to R64): where an ordered list is cut by a frame number. -/

namespace Sys2Proof.Machine

/-- A list is above `f` whole, or has a last entry that is not. -/
theorem all_above_or_exists_last (f : Int) (l : List Entry) :
    (∀ e ∈ l, f < e.fields.start) ∨
      ∃ pre e post, l = pre ++ e :: post ∧ e.fields.start ≤ f ∧ ∀ d ∈ post, f < d.fields.start := by
  induction l with
  | nil => exact .inl fun _ h => (nomatch h)
  | cons x l ih =>
    rcases ih with above | ⟨pre, e, post, rfl, he, hpost⟩
    · rcases le_or_gt x.fields.start f with hx | hx
      · exact .inr ⟨[], x, l, rfl, hx, above⟩
      · exact .inl (List.forall_mem_cons.2 ⟨hx, above⟩)
    · exact .inr ⟨x :: pre, e, post, rfl, he, hpost⟩

/-- R62: entries above `f` leave what the entries already passed gave. -/
theorem coveringFrom_above {f : Int} {l : List Entry} (h : ∀ e ∈ l, f < e.fields.start)
    (best : Option (Entry × Option Entry)) : coveringFrom f best l = best := by
  cases l with
  | nil => rfl
  | cons x l => exact if_neg (not_le.2 (h x List.mem_cons_self))

/-- R61, R64: the last entry not above `f`, with the entry before it. -/
theorem coveringFrom_last {f : Int} {pre post : List Entry} {e : Entry} (hpre : ∀ d ∈ pre, d.fields.start ≤ f)
    (he : e.fields.start ≤ f) (hpost : ∀ d ∈ post, f < d.fields.start) (best : Option (Entry × Option Entry)) :
    coveringFrom f best (pre ++ e :: post) = some (e, pre.getLast?.or (best.map (·.1))) := by
  induction pre generalizing best with
  | nil => exact (if_pos he).trans (coveringFrom_above hpost _)
  | cons x pre ih =>
    obtain ⟨hx, hpre⟩ := List.forall_mem_cons.1 hpre
    refine (if_pos hx).trans ((ih hpre _).trans ?_)
    rw [List.getLast?_cons]
    cases pre.getLast? <;> rfl

/-- R61, R64: the entry that cuts an ordered list is the covering one, with the entry before it. -/
theorem covering_last {f : Int} {pre post : List Entry} {e : Entry} (hl : InStartOrder (pre ++ e :: post))
    (he : e.fields.start ≤ f) (hpost : ∀ d ∈ post, f < d.fields.start) :
    covering f (pre ++ e :: post) = some (e, pre.getLast?) := by
  obtain ⟨-, -, cross⟩ := List.pairwise_append.1 hl
  have hpre : ∀ d ∈ pre, d.fields.start ≤ f := fun d hd => (cross d hd e List.mem_cons_self).le.trans he
  rw [covering, coveringFrom_last hpre he hpost, Option.map_none, Option.or_none]

theorem inEntry_lookup (f : Int) (l : List Entry) : (lookup f l).inEntry = (covering f l).map (·.1) := by
  unfold lookup
  split
  · next h => rw [h]; rfl
  · next h => rw [h]; rfl
  · next h =>
    rw [h]
    split <;> rfl

/-- R61, R62: an ordered list with an entry not above `f` gives the one of greatest start frame. -/
theorem inEntry_lookup_eq_some {f : Int} {l : List Entry} (hl : InStartOrder l) (e : Entry) :
    (lookup f l).inEntry = some e ↔
      e ∈ l ∧ e.fields.start ≤ f ∧ ∀ d ∈ l, d.fields.start ≤ f → d.fields.start ≤ e.fields.start := by
  rcases all_above_or_exists_last f l with above | ⟨pre, c, post, rfl, hc, hpost⟩
  · rw [inEntry_lookup, covering, coveringFrom_above above]
    exact ⟨fun h => (nomatch h), fun ⟨hm, hs, _⟩ => absurd hs (not_le.2 (above e hm))⟩
  · have greatest : ∀ d ∈ pre ++ c :: post, d.fields.start ≤ f → d = c ∨ d.fields.start < c.fields.start := by
      obtain ⟨-, -, cross⟩ := List.pairwise_append.1 hl
      intro d hd hf
      rcases List.mem_append.1 hd with hd | hd
      · exact .inr (cross d hd c List.mem_cons_self)
      · rcases List.mem_cons.1 hd with rfl | hd
        · exact .inl rfl
        · exact absurd hf (not_le.2 (hpost d hd))
    have member : c ∈ pre ++ c :: post := List.mem_append_cons_self
    rw [inEntry_lookup, covering_last hl hc hpost, Option.map_some, Option.some_inj]
    constructor
    · rintro rfl
      exact ⟨member, hc, fun d hd hf => (greatest d hd hf).elim (fun h => h ▸ le_rfl) le_of_lt⟩
    · rintro ⟨hm, hs, hmax⟩
      exact ((greatest e hm hs).resolve_right (not_lt.2 (hmax c member hc))).symm

/-- Settles O51: the list is cut at the last entry not above `f`. -/
theorem lookupFindsTheCoveringEntry : Obligations.LookupFindsTheCoveringEntry := by
  intro f l hl
  refine ⟨?_, inEntry_lookup_eq_some hl, ?_⟩
  · rcases all_above_or_exists_last f l with above | ⟨pre, c, post, rfl, hc, hpost⟩
    · rw [inEntry_lookup, covering, coveringFrom_above above]
      exact ⟨fun _ => above, fun _ => rfl⟩
    · rw [inEntry_lookup, covering_last hl hc hpost]
      exact ⟨fun h => (nomatch h), fun h => absurd hc (not_le.2 (h c List.mem_append_cons_self))⟩
  · rintro pre post e rfl he hpost
    have position : (f - e.fields.start).toNat + 1 = (f - e.fields.start + 1).toNat := by omega
    rw [lookup, covering_last hl he hpost]
    cases pre.getLast? with
    | none => rfl
    | some p => simp only [position]

end Sys2Proof.Machine
end

section
/-! What reaches the ordered list: slot commits and clears alone (R47, R57). -/

namespace Sys2Proof.Machine

/-- A property of the GLI that commits keep, with the fields of any committed copy, and that an empty list has. -/
structure GradeList.Kept (Q : GradeList → Prop) : Prop where
  commit : ∀ (g : GradeList) (byReload : Bool) (i : Fin 512) (valid : Bool) (c : Committed 3),
    Q g → Q (g.commit byReload i valid c.slotFields).1
  reset : Q GradeList.reset

namespace GradeList.Kept

variable {Q : GradeList → Prop} (hq : GradeList.Kept Q)
include hq

/-! ## Table shadows -/

theorem commitItem (byReload : Bool) (ref : ItemRef) (w : Word) (s : State) (h : Q s.gradeList) :
    Q (commitItem byReload ref w s).gradeList := by
  cases ref with
  | slot i =>
    have committed := hq.commit s.gradeList byReload i (validBit w) ⟨w, s.tables.slots[i.val].staged⟩ h
    unfold Machine.commitItem commitSlot
    dsimp only
    split
    · exact committed
    · simp only [stageFault_frame]
      exact committed
  | record i | curve i | window i => exact h

theorem captureTableWord (ref : ItemRef) (o : Nat) (w : Word) (s : State) (h : Q s.gradeList) :
    Q (captureTableWord ref o w s).gradeList := by
  unfold Machine.captureTableWord
  split
  · exact hq.commitItem false ref w s h
  · simpa using h

theorem clearTable (t : TableId) (s : State) (h : Q s.gradeList) : Q (clearTable t s).gradeList := by
  cases t with
  | gradeList => exact hq.reset
  | records | curves | windows => exact h

/-! ## Reload engine -/

theorem installPart (ref : ItemRef) (part : ItemPart) (s : State) (h : Q s.gradeList) :
    Q (installPart ref part s).gradeList := by
  cases part with
  | rest => simpa [Machine.installPart] using h
  | word0 => simpa [Machine.installPart] using hq.commitItem true ref _ s h

theorem requestPart (fuel : Nat) (ref : ItemRef) (part : ItemPart) (s : State) (h : Q s.gradeList) :
    Q (requestPart fuel ref part s).gradeList := by
  induction fuel generalizing ref part s with
  | zero => exact h
  | succ fuel ih =>
    unfold Machine.requestPart
    dsimp only
    split
    · exact h
    · split
      · exact ih _ _ _ (hq.installPart ref part s h)
      · exact hq.installPart ref part s h

theorem resumeReload (s : State) (h : Q s.gradeList) : Q (resumeReload s).gradeList := by
  unfold Machine.resumeReload requestFirstPending
  simp only [leaveLoading_frame]
  split
  · exact h
  · split
    · exact hq.requestPart _ _ _ s h
    · exact h

theorem restartReload (cleared : List TableId) (s : State) (h : Q s.gradeList) :
    Q (restartReload cleared s).gradeList := hq.resumeReload _ h

theorem retarget (t : TableId) (s : State) (h : Q s.gradeList) : Q (retarget t s).gradeList := by
  refine hq.restartReload [t] _ ?_
  simpa using hq.clearTable t _ (by simpa using h)

theorem reloadAll (s : State) : Q (reloadAll s).gradeList :=
  hq.restartReload allTables _ hq.reset

theorem completeTableRead (ref : ItemRef) (part : ItemPart) (discard : Bool) (s : State) (h : Q s.gradeList) :
    Q (completeTableRead ref part discard s).gradeList := by
  have installed := hq.installPart ref part s h
  unfold Machine.completeTableRead
  dsimp only
  split
  · exact hq.resumeReload s h
  · split <;> simp only [leaveLoading_frame]
    · exact hq.requestPart _ _ _ _ installed
    · exact installed

/-! ## Setup -/

theorem issueCommand (w : Word) (s : State) (h : Q s.gradeList) : Q (issueCommand w s).gradeList := by
  unfold Machine.issueCommand
  split
  case h_3 => exact hq.reloadAll s
  all_goals simpa using h

/-- R12: a table base is the one setup field whose change reaches the tables. -/
theorem takeWord (k : SetupWord) (w : Word) (s : State) (h : Q s.gradeList) : Q (takeWord k w s).gradeList := by
  unfold Machine.takeWord
  cases k <;> dsimp only
  case command => exact hq.issueCommand w s h
  case tableBase t => split; exacts [hq.retarget t _ h, h]
  all_goals (repeat' split) <;> simpa using h

theorem takeSetup (s : State) (h : Q s.gradeList) : Q (takeSetup s).gradeList := by
  refine hq.resumeReload _ ?_
  simp only [makeAllPending_frame, State.withPartState_gradeList, resetRing_frame, restart_frame, checkShadowLegal_frame,
    expireIfDue_frame]
  split <;> simpa using h

theorem enterUnset (s : State) : Q (enterUnset s).gradeList := by
  simpa [Machine.enterUnset, clearAllTables_eq] using hq.reset

theorem captureSetup (k : Fin 64) (w : Word) (s : State) (h : Q s.gradeList) : Q (captureSetup k w s).gradeList := by
  have inUse : ∀ t : State, Q t.gradeList → Q (captureInUse (setupWordAt k) w t).gradeList := by
    intro t ht
    unfold captureInUse
    split
    · exact hq.enterUnset t
    · exact hq.takeWord _ w t ht
  unfold Machine.captureSetup captureInUnset
  dsimp only
  split
  · exact h
  · split
    · split
      · exact hq.takeSetup _ h
      · exact h
    all_goals exact inUse _ h

theorem completeSetupRead (q : Fin 4) (s : State) (h : Q s.gradeList) : Q (completeSetupRead q s).gradeList := by
  have installed : Q (installSetupRead q s).gradeList := by simpa using h
  unfold Machine.completeSetupRead
  dsimp only
  split
  · simpa using h
  · split
    · exact hq.takeSetup _ installed
    · exact installed

/-! ## Every step -/

theorem step {s s' : State} (hs : step s = .next s') (h : Q s.gradeList) : Q s'.gradeList := by
  refine step_keeps (P := fun s => Q s.gradeList) ?pending (forwardWord_keeps ?pass ?fault ?setup ?table ?picture)
    ?returned ?waiting ?reset ?release ?setupRead ?tableRead ?report ?issue ?edge ?stop ?cue ?division ?cells ?verify
    ?timeOut ?select ?tick h hs
  case setup => exact hq.captureSetup
  case table => exact fun ref o w s _ h => hq.captureTableWord ref o w s h
  case setupRead => exact fun q _ s _ h => hq.completeSetupRead q _ (by simpa using h)
  case tableRead => exact fun ref p d s _ h => hq.completeTableRead ref p d _ (by simpa using h)
  case reset => exact fun _ _ => hq.reset
  case release => intro b s h; unfold releaseReset; split <;> exact h
  case tick => intro s h; unfold tick takeDueTimeouts; split <;> simpa using h
  all_goals intros; simpa

end GradeList.Kept

end Sys2Proof.Machine
end

section
/-! Every step keeps the ordered list sorted and equal to the LISTED slots (R48): removal takes a slot out of both, and a
status or an insertion puts it back into one or both. -/

namespace Sys2Proof.Machine

/-- `OrderedListSound`, of the GLI alone. -/
def GradeList.Sound (g : GradeList) : Prop :=
  InStartOrder g.ordered
    ∧ (∀ e ∈ g.ordered, 0 ≤ e.fields.start ∧ e.fields.start ≤ 999999)
    ∧ (g.ordered.map (·.slot)).Nodup
    ∧ ∀ i : Fin 512, (∃ e ∈ g.ordered, e.slot = i) ↔ g.status[i.val] = .listed

theorem orderedListSound_iff (s : State) : OrderedListSound s ↔ s.gradeList.Sound := Iff.rfl

/-- R49: the GLI between the removal of slot `i` and what follows it: sound but for the status of that slot, which has no
entry. -/
structure GradeList.SoundBut (i : Fin 512) (g : GradeList) : Prop where
  order : InStartOrder g.ordered
  range : ∀ e ∈ g.ordered, 0 ≤ e.fields.start ∧ e.fields.start ≤ 999999
  once : (g.ordered.map (·.slot)).Nodup
  removed : ∀ e ∈ g.ordered, e.slot ≠ i
  listed : ∀ j : Fin 512, j ≠ i → ((∃ e ∈ g.ordered, e.slot = j) ↔ g.status[j.val] = .listed)

theorem exists_mem_without {g : GradeList} {i j : Fin 512} (hj : j ≠ i) :
    (∃ e ∈ (g.without i).ordered, e.slot = j) ↔ ∃ e ∈ g.ordered, e.slot = j := by
  constructor
  · rintro ⟨e, he, rfl⟩
    exact ⟨e, (mem_without.1 he).1, rfl⟩
  · rintro ⟨e, he, rfl⟩
    exact ⟨e, mem_without.2 ⟨he, hj⟩, rfl⟩

theorem getElem_mark_ne {g : GradeList} {i j : Fin 512} {st : SlotStatus} (hj : j ≠ i) :
    (g.mark i st).status[j.val] = g.status[j.val] :=
  Vector.getElem_set_ne i.isLt j.isLt (Fin.val_ne_of_ne hj.symm)

theorem getElem_mark_self {g : GradeList} {i : Fin 512} {st : SlotStatus} : (g.mark i st).status[i.val] = st :=
  Vector.getElem_set_self i.isLt

theorem insertEntry_perm (e : Entry) (l : List Entry) : (insertEntry e l).Perm (e :: l) := by
  induction l with
  | nil => exact .refl _
  | cons x l ih =>
    unfold insertEntry
    split
    · exact .refl _
    · exact (ih.cons x).trans (.swap e x l)

/-- An entry of a slot that has none keeps the slots of a list distinct. -/
theorem nodup_insertEntry {e : Entry} {l : List Entry} (hl : (l.map (·.slot)).Nodup) (he : ∀ x ∈ l, x.slot ≠ e.slot) :
    ((insertEntry e l).map (·.slot)).Nodup := by
  refine ((insertEntry_perm e l).map _).nodup_iff.2 (List.nodup_cons.2 ⟨fun hm => ?_, hl⟩)
  obtain ⟨x, hx, hs⟩ := List.mem_map.1 hm
  exact he x hx hs

/-- R49: the removal of a slot. -/
theorem GradeList.Sound.without {g : GradeList} (hg : g.Sound) (i : Fin 512) : (g.without i).SoundBut i := by
  obtain ⟨order, range, once, listed⟩ := hg
  exact {
    order := order.filter _
    range := fun e he => range e (mem_without.1 he).1
    once := once.sublist (List.filter_sublist.map _)
    removed := fun e he => (mem_without.1 he).2
    listed := fun j hj => (exists_mem_without hj).trans (listed j) }

namespace GradeList.SoundBut

variable {g : GradeList} {i : Fin 512} (hg : g.SoundBut i)
include hg

/-- R50 to R52: the removed slot gets a status other than LISTED. -/
theorem mark {st : SlotStatus} (hst : st ≠ .listed) : (g.mark i st).Sound := by
  refine ⟨hg.order, hg.range, hg.once, fun j => ?_⟩
  by_cases hj : j = i
  · subst hj
    rw [getElem_mark_self]
    exact iff_of_false (fun ⟨e, he, hs⟩ => hg.removed e he hs) hst
  · rw [getElem_mark_ne hj]
    exact hg.listed j hj

/-- R53: a further slot is displaced. -/
theorem displace {k : Fin 512} (hk : k ≠ i) {st : SlotStatus} (hst : st ≠ .listed) :
    ((g.mark k st).without k).SoundBut i where
  order := hg.order.filter _
  range e he := hg.range e (mem_without.1 he).1
  once := hg.once.sublist (List.filter_sublist.map _)
  removed e he := hg.removed e (mem_without.1 he).1
  listed j hj := by
    by_cases hjk : j = k
    · subst hjk
      refine iff_of_false (fun ⟨e, he, hs⟩ => (mem_without.1 he).2 hs) ?_
      exact getElem_mark_self.trans_ne hst
    · have kept : ((g.mark k st).without k).status[j.val] = g.status[j.val] := getElem_mark_ne hjk
      rw [exists_mem_without hjk, kept]
      exact hg.listed j hj

/-- R54: the removed slot is listed at a start frame that no entry holds. -/
theorem insert {f : SlotFields} (hr : 0 ≤ f.start ∧ f.start ≤ 999999) (hf : ∀ x ∈ g.ordered, x.fields.start ≠ f.start) :
    (g.insert i f).Sound := by
  obtain ⟨order, members⟩ := insert_ordered (i := i) hg.order hf
  refine ⟨order, fun e he => ?_, ?_, fun j => ?_⟩
  · rcases (members e).1 he with he | rfl
    · exact hg.range e he
    · exact hr
  · exact nodup_insertEntry hg.once hg.removed
  · by_cases hj : j = i
    · subst hj
      exact iff_of_true ⟨_, (members _).2 (.inr rfl), rfl⟩ getElem_mark_self
    · have kept : (g.insert i f).status[j.val] = g.status[j.val] := getElem_mark_ne hj
      rw [kept, ← hg.listed j hj]
      constructor
      · rintro ⟨e, he, rfl⟩
        rcases (members e).1 he with he | rfl
        · exact ⟨e, he, rfl⟩
        · exact absurd rfl hj
      · rintro ⟨e, he, rfl⟩
        exact ⟨e, (members e).2 (.inl he), rfl⟩

end GradeList.SoundBut

/-- R49 to R54: every outcome of a slot commit leaves the GLI sound. -/
theorem commit_sound {g : GradeList} (hg : g.Sound) (byReload : Bool) (i : Fin 512) (valid : Bool) (f : SlotFields) :
    (g.commit byReload i valid f).1.Sound := by
  have removed := hg.without i
  cases valid with
  | false => exact removed.mark (by decide)
  | true =>
    by_cases hr : 0 ≤ f.start ∧ f.start ≤ 999999
    · by_cases hf : ∀ x ∈ (g.without i).ordered, x.fields.start ≠ f.start
      · rw [commit_free byReload hr hf]
        exact removed.insert hr hf
      · push Not at hf
        obtain ⟨h, hm, hs⟩ := hf
        by_cases hlt : byReload = true ∧ i.val < h.slot.val
        · obtain ⟨rfl, hlt⟩ := hlt
          rw [commit_displaces hr hg.1 hm hs hlt]
          refine (removed.displace (removed.removed h hm) (by decide)).insert hr (hs ▸ ?_)
          exact start_ne_of_mem_without (g := (g.without i).mark h.slot .conflict) removed.order hm
        · rw [commit_loses byReload hr hg.1 hm hs hlt]
          exact removed.mark (by decide)
    · rw [commit_startOutOfRange g byReload i hr]
      exact removed.mark (by decide)

/-- R57: a cleared list is empty, and no slot is LISTED. -/
theorem gradeListSound_kept : GradeList.Kept GradeList.Sound where
  commit _ byReload i valid c hg := commit_sound hg byReload i valid c.slotFields
  reset := orderedListSound_reset

/-- Settles O54: commits and clears alone reach the list, and they keep it sound. -/
theorem stepsKeepTheOrderedList : Obligations.StepsKeepTheOrderedList :=
  fun s s' hs h => (orderedListSound_iff s').2 (gradeListSound_kept.step hs ((orderedListSound_iff s).1 h))

end Sys2Proof.Machine
end

section
/-! What a lane latches from the table shadows and loads from the Profile Store (R69 to R80, R174). -/

namespace Sys2Proof.Machine

/-! ## The status of an item (R70, R72, R73) -/

theorem Item.usable_of_valid {n : Nat} {i : Item n} {c : Committed n} (hc : i.committed = some c)
    (hv : c.first.getLsbD 31 = true) : i.usable = some c := by
  simp [Item.usable, hc, validBit, bit, hv]

theorem Item.usable_of_notValid {n : Nat} {i : Item n}
    (h : i.committed = none ∨ ∃ c, i.committed = some c ∧ c.first.getLsbD 31 = false) : i.usable = none := by
  rcases h with hc | ⟨c, hc, hv⟩
  · simp only [Item.usable, hc]
  · simp [Item.usable, hc, validBit, bit, -BitVec.getLsbD_eq_getElem, hv]

/-! ## Curves and records (R69, R71, R78, R79) -/

theorem latchCurve_fst (t : Shadows) (name : Option (Fin 16)) :
    (latchCurve t name).1 = name.bind fun c => t.curves[c.val].usable.map Committed.knots := by
  cases name with
  | none => rfl
  | some c =>
    simp only [latchCurve, Option.bind_some]
    cases t.curves[c.val].usable <;> rfl

/-- R79: a curve is missing where a record names one and the channel is left without one. -/
theorem latchCurve_snd (t : Shadows) (name : Option (Fin 16)) :
    (latchCurve t name).2 = true ↔ name.isSome = true ∧ (latchCurve t name).1 = none := by
  cases name with
  | none => simp [latchCurve]
  | some c =>
    simp only [latchCurve]
    cases t.curves[c.val].usable <;> simp

/-- R198: a field is present where its present bit is 1. -/
theorem isSome_optional {n : Nat} [NeZero n] (w : Word) (p lo len : Nat) :
    (optional (n := n) w p lo len).isSome = w.getLsbD p := by
  unfold optional bit
  cases w.getLsbD p <;> rfl

theorem latchRecord_of_usable {t : Shadows} {r : Fin 256} {c : Committed 7} (h : t.records[r.val].usable = some c) :
    latchRecord t r =
      ({ lift := c.lift, gain := c.gain
         curve := ⟨(latchCurve t c.curveNames.r).1, (latchCurve t c.curveNames.g).1, (latchCurve t c.curveNames.b).1⟩
         saturation := c.saturation },
       (latchCurve t c.curveNames.r).2 || (latchCurve t c.curveNames.g).2 || (latchCurve t c.curveNames.b).2) := by
  simp only [latchRecord, h]

theorem latchRecord_of_not_usable {t : Shadows} {r : Fin 256} (h : t.records[r.val].usable = none) :
    latchRecord t r = (GradeValues.identity, true) := by
  simp only [latchRecord, h]

theorem knots_zero (k : Committed 16) : k.knots[0] = (k.first.extractLsb' 0 10).toNat := by
  simp [Committed.knots, bits]

theorem knots_succ (k : Committed 16) (i : Fin 16) :
    k.knots[i.val + 1] = (k.rest[i.val].extractLsb' 0 10).toNat := by
  simp [Committed.knots, bits]

/-! ## Windows (R73, R80) -/

theorem latchWindow_of_usable {t : Shadows} {w : Fin 16} {c : Committed 3} (h : t.windows[w.val].usable = some c)
    (g : Fin 256) :
    latchWindow t (some w) (some g) = (some { rect := c.rect, grade := (latchRecord t g).1 }, (latchRecord t g).2) := by
  simp only [latchWindow, h]

theorem latchWindow_of_not_usable {t : Shadows} {w : Fin 16} (h : t.windows[w.val].usable = none) (g : Fin 256) :
    latchWindow t (some w) (some g) = (none, true) := by
  simp only [latchWindow, h]

/-! ## Loads (R174) -/

theorem HeldProfile.matches_iff (h : HeldProfile) (n : Fin 32) :
    h.matches n = true ↔ h.kind = .loaded ∧ h.number = some n := by
  simp [HeldProfile.matches]

theorem programmingBusy_iff (p : ProfileStore) : programmingBusy p = true ↔ p.operation ≠ none := by
  simp [programmingBusy, Option.isSome_iff_ne_none]

theorem loadProfile_eq (p : ProfileStore) (n : Fin 32) (h : HeldProfile) :
    loadProfile p n h =
      if h.kind = .loaded ∧ h.number = some n then { held := h, profileHeld := false, profileBad := false }
      else if p.operation ≠ none then { held := h, profileHeld := true, profileBad := false }
      else if p.profiles[n.val].mark = .incomplete then
        { held := { number := some n, kind := .substitute, values := ProfileValues.identity }
          profileHeld := false, profileBad := true }
      else
        { held := { number := some n, kind := .loaded, values := p.profiles[n.val].values }
          profileHeld := false, profileBad := false } := by
  simp only [loadProfile, HeldProfile.matches_iff, programmingBusy_iff]
  cases p.profiles[n.val].mark <;> rfl

/-- Settles O40, an item by its status and a channel's curve by `latchCurve_fst` and `latchCurve_snd`. -/
theorem lanesLatchLoadOrSubstitute : Obligations.LanesLatchLoadOrSubstitute := by
  refine ⟨fun x r => ⟨fun missing => latchRecord_of_not_usable (Item.usable_of_notValid missing), ?_⟩,
    fun k => ⟨knots_zero k, knots_succ k⟩,
    fun x w g grade => ⟨rfl, rfl, fun missing => latchWindow_of_not_usable (Item.usable_of_notValid missing) g,
      fun c hc hv => latchWindow_of_usable (Item.usable_of_valid hc hv) g⟩,
    fun x r w g => rfl, loadProfile_eq⟩
  intro c curve hc hv hcurve
  have latched (present lo : Nat) : (latchCurve x (optional c.rest[3] present lo 4)).1 = curve present lo := by
    rw [hcurve, latchCurve_fst]
    unfold optional bit bits
    cases c.rest[3].getLsbD present with
    | false => rfl
    | true =>
      simp only [if_true, Option.bind_some, Item.usable, validBit, bit]
      cases x.curves[(Fin.ofNat 16 (c.rest[3].extractLsb' lo 4).toNat).val].committed with
      | none => rfl
      | some k => cases hk : k.first.getLsbD 31 <;> simp [hk]
  rw [latchRecord_of_usable (Item.usable_of_valid hc hv)]
  simp only [Committed.curveNames, Bool.or_eq_true, latchCurve_snd, isSome_optional, latched, or_assoc, and_true]
  rfl

end Sys2Proof.Machine
end

section
/-! The grade pipeline (chapter The Grade Pipeline): each stage's arithmetic and the range of what it answers. -/

namespace Sys2Proof.Machine

/-! ## Rounded division (R110) -/

theorem roundDiv_eq_fdiv (a : Int) {q : Int} (hq : 0 ≤ q) : roundDiv a q = (a + q / 2).fdiv q :=
  (Int.fdiv_eq_ediv_of_nonneg _ hq).symm

/-- R110: a rounded fraction of `t` lies between 0 and `t`. -/
theorem roundDiv_between {t d q : Int} (hq : 0 < q) (hd : 0 ≤ d) (hdq : d ≤ q) :
    min 0 t ≤ roundDiv (t * d) q ∧ roundDiv (t * d) q ≤ max 0 t := by
  have half : 0 ≤ q / 2 ∧ q / 2 < q := by omega
  have hlow : min 0 t * q ≤ t * d := by
    rcases le_total 0 t with ht | ht
    · rw [min_eq_left ht, zero_mul]
      exact mul_nonneg ht hd
    · rw [min_eq_right ht]
      exact mul_le_mul_of_nonpos_left hdq ht
  have hhigh : t * d ≤ max 0 t * q := by
    rcases le_total 0 t with ht | ht
    · rw [max_eq_right ht]
      exact mul_le_mul_of_nonneg_left hdq ht
    · rw [max_eq_left ht, zero_mul]
      exact mul_nonpos_of_nonpos_of_nonneg ht hd
  unfold roundDiv
  constructor
  · rw [Int.le_ediv_iff_mul_le hq]
    omega
  · rw [← Int.lt_add_one_iff, Int.ediv_lt_iff_lt_mul hq, add_mul]
    omega

/-- R116, R121: a value a rounded fraction of the way from `a` to `b` lies between them. -/
theorem add_roundDiv_between {a b d q : Int} (hq : 0 < q) (hd : 0 ≤ d) (hdq : d ≤ q) :
    min a b ≤ a + roundDiv ((b - a) * d) q ∧ a + roundDiv ((b - a) * d) q ≤ max a b := by
  have := roundDiv_between (t := b - a) hq hd hdq
  omega

/-! ## Channels in a range -/

/-- Each of the three channels lies in `lo` to `hi`. -/
def ChannelsWithin (lo hi : Int) (v : Rgb Int) : Prop :=
  (lo ≤ v.r ∧ v.r ≤ hi) ∧ (lo ≤ v.g ∧ v.g ≤ hi) ∧ (lo ≤ v.b ∧ v.b ≤ hi)

theorem clampInt_range {lo hi : Int} (h : lo ≤ hi) (v : Int) : lo ≤ clampInt lo hi v ∧ clampInt lo hi v ≤ hi :=
  ⟨le_max_left _ _, max_le h (min_le_left _ _)⟩

theorem clampInt_of_range {lo hi v : Int} (h : lo ≤ v ∧ v ≤ hi) : clampInt lo hi v = v := by
  rw [clampInt, min_eq_right h.2, max_eq_right h.1]

/-! ## Stages 1 to 4 (R112 to R119) -/

theorem profileStage_within (k : ProfileValues) (p : Rgb Int) : ChannelsWithin 0 1023 (profileStage k p) :=
  ⟨profileChannel_range _ _ _ _, profileChannel_range _ _ _ _, profileChannel_range _ _ _ _⟩

/-- R119: stage 4 bounds what the record's gains and knots have made. -/
theorem gradeStages_within (g : GradeValues) (p : Rgb Int) : ChannelsWithin 0 1023 (gradeStages g p) :=
  ⟨clampInt_range (by decide) _, clampInt_range (by decide) _, clampInt_range (by decide) _⟩

theorem laneResult_within (l : Lane) (x y : Nat) {p : Rgb Int} (hp : ChannelsWithin 0 1023 p) :
    ChannelsWithin 0 1023 (laneResult l x y p) := by
  unfold laneResult
  cases l.latch with
  | none => exact hp
  | some k => exact gradeStages_within _ _

theorem knot_eq {k : Curve} {i a : Nat} (h : k[i]? = some a) : knot k i = a := by
  simp [knot, h]

/-- R116: a channel in segment `i` of a curve is interpolated between knots `i` and `i + 1`. -/
theorem curveChannel_segment {k : Curve} {g : Int} {i a b : Nat} (hi : (i : Int) = g / 64) (ha : k[i]? = some a)
    (hb : k[i + 1]? = some b) : curveChannel (some k) g = a + roundDiv (((b : Int) - a) * (g - 64 * i)) 64 := by
  have segment : (g / 64).toNat = i := by omega
  simp only [curveChannel, segment, knot_eq ha, knot_eq hb]

/-! ## The pipeline at identity (R125) -/

theorem profileChannel_identity {x : Int} (h : 0 ≤ x ∧ x ≤ 1023) : profileChannel false 0 1024 x = x := by
  have rounded : roundDiv (x * 1024) 1024 = x := by
    unfold roundDiv
    omega
  have unchanged : profileChannel false 0 1024 x = clampChannel (roundDiv (x * 1024) 1024) := by
    simp [profileChannel]
  rw [unchanged, rounded]
  exact clampInt_of_range h

theorem gainChannel_identity {x : Int} (h : 0 ≤ x ∧ x ≤ 1023) : gainChannel 0 1024 x = x := by
  have rounded : roundDiv ((x + 0) * (1024 : Nat)) 1024 = x := by
    unfold roundDiv
    omega
  rw [gainChannel, rounded]
  exact clampInt_of_range h

/-- R119: saturation 256 leaves a channel as it is, whatever the luma. -/
theorem saturationChannel_identity (y : Int) {x : Int} (h : 0 ≤ x ∧ x ≤ 1023) : saturationChannel 256 y x = x := by
  have rounded : y + roundDiv ((x - y) * (256 : Nat)) 256 = x := by
    unfold roundDiv
    omega
  rw [saturationChannel, rounded]
  exact clampInt_of_range h

theorem profileStage_identity {p : Rgb Int} (h : ChannelsWithin 0 1023 p) :
    profileStage ProfileValues.identity p = p := by
  obtain ⟨hr, hg, hb⟩ := h
  simp only [profileStage, ProfileValues.identity, profileChannel_identity hr, profileChannel_identity hg,
    profileChannel_identity hb]

theorem gradeStages_identity {p : Rgb Int} (h : ChannelsWithin 0 1023 p) :
    gradeStages GradeValues.identity p = p := by
  obtain ⟨hr, hg, hb⟩ := h
  simp only [gradeStages, gainStage, curveStage, saturationStage, GradeValues.identity, curveChannel,
    gainChannel_identity hr, gainChannel_identity hg, gainChannel_identity hb, saturationChannel_identity _ hr,
    saturationChannel_identity _ hg, saturationChannel_identity _ hb]

/-! ## The two lanes (R74, R82, R121) -/

theorem Rect.contains_iff (r : Rect) (x y : Nat) :
    r.contains x y = true ↔ r.left ≤ x ∧ x < r.left + r.width ∧ r.top ≤ y ∧ y < r.top + r.height := by
  simp [Rect.contains, and_assoc]

theorem laneResult_latched {l : Lane} {k : LaneLatch} (h : l.latch = some k) (x y : Nat) (p : Rgb Int) :
    laneResult l x y p = gradeStages (k.gradeAt x y) p := by
  rw [laneResult, h]

theorem mixChannel_between {m : Nat} (hm : m ≤ 256) (o n : Int) :
    min o n ≤ mixChannel m o n ∧ mixChannel m o n ≤ max o n :=
  add_roundDiv_between (by decide) (by omega) (by omega)

theorem mixStage_within {m : Nat} (hm : m ≤ 256) {lo hi : Int} {o n : Rgb Int} (ho : ChannelsWithin lo hi o)
    (hn : ChannelsWithin lo hi n) : ChannelsWithin lo hi (mixStage m o n) := by
  have channel {a b : Int} (ha : lo ≤ a ∧ a ≤ hi) (hb : lo ≤ b ∧ b ≤ hi) :
      lo ≤ mixChannel m a b ∧ mixChannel m a b ≤ hi := by
    have := mixChannel_between hm a b
    omega
  obtain ⟨or, og, ob⟩ := ho
  obtain ⟨nr, ng, nb⟩ := hn
  exact ⟨channel or nr, channel og ng, channel ob nb⟩

theorem gradedChannels_covered {f : OpenFrame} (h : f.lookup.outEntry = none) (x y : Nat) (p : Rgb Int) (s : State) :
    gradedChannels f x y p s =
      laneResult s.lanes.incoming x y (profileStage s.lanes.incoming.held.values p) := by
  rw [gradedChannels, h]

theorem gradedChannels_dissolve {f : OpenFrame} (h : f.lookup.outEntry ≠ none) (x y : Nat) (p : Rgb Int) (s : State) :
    gradedChannels f x y p s =
      mixStage s.mix.current (laneResult s.lanes.outgoing x y (profileStage s.lanes.outgoing.held.values p))
        (laneResult s.lanes.incoming x y (profileStage s.lanes.incoming.held.values p)) := by
  obtain ⟨e, he⟩ := Option.ne_none_iff_exists'.1 h
  rw [gradedChannels, he]

theorem gradedChannels_within (f : OpenFrame) (x y : Nat) (p : Rgb Int) {s : State} (hm : s.mix.current ≤ 256) :
    ChannelsWithin 0 1023 (gradedChannels f x y p s) := by
  have incoming := laneResult_within s.lanes.incoming x y (profileStage_within s.lanes.incoming.held.values p)
  by_cases hout : f.lookup.outEntry = none
  · rw [gradedChannels_covered hout]
    exact incoming
  · rw [gradedChannels_dissolve hout]
    exact mixStage_within hm (laneResult_within _ x y (profileStage_within _ p)) incoming

/-! ## FLAT and BARS (R102, R103) -/

/-- R103: red is on in bars 0, 1, 4 and 5, green in 0 to 3, and blue in the even ones. -/
theorem barColour_eq (onLevel offLevel : Int) {bar : Nat} (h : bar < 8) :
    barColour onLevel offLevel bar =
      ⟨if bar ∈ [0, 1, 4, 5] then onLevel else offLevel, if bar ∈ [0, 1, 2, 3] then onLevel else offLevel,
       if bar ∈ [0, 2, 4, 6] then onLevel else offLevel⟩ := by
  interval_cases bar <;> rfl

/-- R103: a bar has no level but its on and its off level. -/
theorem barColour_within {lo hi onLevel offLevel : Int} (hon : lo ≤ onLevel ∧ onLevel ≤ hi)
    (hoff : lo ≤ offLevel ∧ offLevel ≤ hi) (bar : Nat) : ChannelsWithin lo hi (barColour onLevel offLevel bar) := by
  unfold barColour
  split <;> exact ⟨‹_›, ‹_›, ‹_›⟩

theorem formedChannels_graded {f : OpenFrame} (h : f.substitution = .none) (x y : Nat) (p : Rgb Int) (s : State) :
    formedChannels f x y p s = gradedChannels f x y p s := by
  rw [formedChannels, h]

theorem formedChannels_flat {f : OpenFrame} (h : f.substitution = .flat) (x y : Nat) (p : Rgb Int) (s : State) :
    formedChannels f x y p s = flatValue f.setup := by
  rw [formedChannels, h]

theorem formedChannels_bars {f : OpenFrame} (h : f.substitution = .bars) (x y : Nat) (p : Rgb Int) (s : State) :
    formedChannels f x y p s = barColour f.setup.barLevel f.setup.legalLo (x * 8 / s.setup.width) := by
  rw [formedChannels, h]
  rfl

/-- R95: what a word becomes before the legal clamp, substituted or graded, lies in 0 to 1,023. -/
theorem formedChannels_within {f : OpenFrame} (x y : Nat) (p : Rgb Int) {s : State}
    (hfill : f.setup.fill.r ≤ 1023 ∧ f.setup.fill.g ≤ 1023 ∧ f.setup.fill.b ≤ 1023)
    (hbar : f.setup.barLevel ≤ 1023) (hlo : f.setup.legalLo ≤ 1023) (hm : s.mix.current ≤ 256) :
    ChannelsWithin 0 1023 (formedChannels f x y p s) := by
  cases hs : f.substitution with
  | none =>
    rw [formedChannels_graded hs]
    exact gradedChannels_within f x y p hm
  | flat =>
    rw [formedChannels_flat hs]
    simp only [flatValue, ChannelsWithin]
    omega
  | bars =>
    rw [formedChannels_bars hs]
    exact barColour_within (by omega) (by omega) _

/-! ## The legal clamp and the written word (R95, R123, R124) -/

theorem legalClamp_enabled {f : FrameSetup} (he : f.legalEnable = true) (hlh : f.legalLo ≤ f.legalHi) (v : Rgb Int) :
    ChannelsWithin f.legalLo f.legalHi (legalClamp f v) := by
  have levels : (f.legalLo : Int) ≤ f.legalHi := by omega
  rw [legalClamp, if_pos he]
  exact ⟨clampInt_range levels _, clampInt_range levels _, clampInt_range levels _⟩

theorem ChannelsWithin.mono {lo hi lo' hi' : Int} {v : Rgb Int} (h : ChannelsWithin lo hi v) (hlo : lo' ≤ lo)
    (hhi : hi ≤ hi') : ChannelsWithin lo' hi' v := by
  unfold ChannelsWithin at *
  omega

theorem legalClamp_within {f : FrameSetup} (hlh : f.legalLo ≤ f.legalHi) (hhi : f.legalHi ≤ 1023) {v : Rgb Int}
    (hv : ChannelsWithin 0 1023 v) : ChannelsWithin 0 1023 (legalClamp f v) := by
  by_cases he : f.legalEnable = true
  · exact (legalClamp_enabled he hlh v).mono (by omega) (by omega)
  · rw [legalClamp, if_neg he]
    exact hv

theorem toNat_ofInt_channel {v : Int} (h : 0 ≤ v ∧ v ≤ 1023) : (BitVec.ofInt 10 v).toNat = v.toNat := by
  rw [BitVec.toNat_ofInt]
  omega

theorem channels_gradedWord {v : Rgb Int} (h : ChannelsWithin 0 1023 v) :
    channels (gradedWord v) = ⟨v.r.toNat, v.g.toNat, v.b.toNat⟩ := by
  obtain ⟨hr, hg, hb⟩ := h
  rw [gradedWord, channels_pictureWordOf, toNat_ofInt_channel hr, toNat_ofInt_channel hg, toNat_ofInt_channel hb]

/-- Settles O52, stage by stage. -/
theorem pipelineStagesAreExact : Obligations.PipelineStagesAreExact := by
  refine ⟨fun inv b k x _ _ => ?profile, fun lift gain p => ?gain, fun k g i _ _ hi a b ha hb => ?curve, fun c => ?luma,
    fun sat y c => ?saturation, fun m o n hm => ⟨?mix, mixChannel_between hm o n⟩, fun w p => rfl, ?grade, fun g => rfl,
    fun p hr0 hr hg0 hg hb0 hb => ?identity, fun f x y p s => ⟨fun hs => formedChannels_flat hs x y p s,
      ?bars, ?lanes⟩, fun f v => rfl, fun f v he hlh hhi => ?legal, ?written⟩
  case profile | gain => exact congrArg clampChannel (roundDiv_eq_fdiv _ (by decide))
  case curve =>
    rw [Int.fdiv_eq_ediv_of_nonneg _ (by decide)] at hi
    rw [curveChannel_segment hi ha hb]
    exact ⟨congrArg _ (roundDiv_eq_fdiv _ (by decide)), add_roundDiv_between (by decide) (by omega) (by omega)⟩
  case luma => exact roundDiv_eq_fdiv _ (by decide)
  case saturation => exact congrArg (fun t => clampChannel (y + t)) (roundDiv_eq_fdiv _ (by decide))
  case mix => exact congrArg _ (roundDiv_eq_fdiv _ (by decide))
  case grade =>
    rintro g p _ rfl
    rfl
  case identity =>
    have within : ChannelsWithin 0 1023 p := ⟨⟨hr0, hr⟩, ⟨hg0, hg⟩, ⟨hb0, hb⟩⟩
    rw [profileStage_identity within, gradeStages_identity within]
  case bars =>
    intro bar level hs hx hbar hlevel
    have bar_lt : bar < 8 := by
      rw [hbar, Nat.div_lt_iff_lt_mul (by omega)]
      omega
    simp only [formedChannels_bars hs, ← hbar, barColour_eq _ _ bar_lt, hlevel]
  case lanes =>
    intro record hrecord i n hs hi hn
    have gradeAt (k : LaneLatch) : record k = k.gradeAt x y := by
      rw [hrecord]
      unfold LaneLatch.gradeAt
      cases k.window with
      | none => rfl
      | some w => simp only [Rect.contains_iff]
    rw [gradeAt, ← laneResult_latched hi] at hn
    refine ⟨fun hout => ?_, fun k o hout hk ho => ?_⟩
    · rw [formedChannels_graded hs, gradedChannels_covered hout, hn]
    · rw [gradeAt, ← laneResult_latched hk] at ho
      rw [formedChannels_graded hs, gradedChannels_dissolve hout, hn, ho]
      rfl
  case legal =>
    have within := legalClamp_enabled he hlh v
    have picture := channels_gradedWord (within.mono (by omega) (by omega))
    obtain ⟨hr, hg, hb⟩ := within
    exact ⟨hr, hg, hb, picture⟩
  case written =>
    intro f x y p v s hr hg hb hbar hlh hhi hm hv
    have within : ChannelsWithin 0 1023 v :=
      hv ▸ legalClamp_within hlh hhi (formedChannels_within x y p ⟨hr, hg, hb⟩ hbar (by omega) hm)
    have picture := channels_gradedWord within
    obtain ⟨red, green, blue⟩ := within
    exact ⟨red, green, blue, picture, isPicture_pictureWordOf _⟩

end Sys2Proof.Machine
end

section
/-! The words of an open frame after its first (R89, R95, R97, R104, R149, R150). -/

namespace Sys2Proof.Machine

/-- R95, R97: past offset 0 a word of the open frame's buffer is graded, and the frame closes if the word was its last. -/
theorem pictureWord_later {b : Fin 4} {o : Nat} {f : OpenFrame} {s : State} (ho : o ≠ 0)
    (hf : s.tracker.openFrame = some f) (hb : f.buffer = b) (a : Nat) (w : Word) :
    pictureWord b a o w s = closeAtLastOffset o (gradeWord f a o w s) := by
  have mine : openBuffer s = some b := by rw [openBuffer, hf, Option.map_some, hb]
  rw [pictureWord, if_neg ho, if_pos mine, gradeInOpenFrame_open hf]

/-- Settles O36: `pictureWord_later`, with the graded word block by block. -/
theorem openFrameWordsAreGraded : Obligations.OpenFrameWordsAreGraded := by
  intro a p b o x y f v s t hp cell hcell hactive hplace ho hf hb hx hy hv ht
  have inCell : cellOf s.setup x y = cell := hcell.symm
  subst hx hy
  have examined : examinesPicture .scan (pictureWordOf p) s = true := by
    simp [examinesPicture, hactive, isPicture_pictureWordOf]
  have graded := gradeWord_eq f (4 * a.toNat) o p s rfl hv
  rw [countGraded_eq, sumsAfterWord, inCell] at graded
  have word : exec (.pictureWord a p) s = .next (closeAtLastOffset o t) := by
    rw [exec_pictureWord hp]
    simp only [forwardFull, hplace, examined, if_true, pictureWord_later ho hf hb]
    rw [graded.trans ht.symm]
  have extent : t.setup = s.setup := by rw [ht]
  rw [word, closeAtLastOffset, extent]
  exact ⟨fun h => congrArg _ (if_neg h), fun h => congrArg _ (if_pos h)⟩

end Sys2Proof.Machine
end

section
/-! The open frame, the recent cuts and the profile being written (R90, R91, R160, R178, R180): what each operation leaves
of the three invariants, and that every step keeps them. -/

namespace Sys2Proof.Machine

/-! ## The relation between two states -/

/-- Each of the three invariants that holds in `s` holds in `t`. -/
structure State.LeavesSound (s t : State) : Prop where
  frame : OpenOnlyInActive s → OpenOnlyInActive t
  cuts : RecentCutsSound s → RecentCutsSound t
  programming : ProgrammingSound s → ProgrammingSound t

theorem recentCutsSound_of_eq {s t : State} (h : t.detector.recentCuts = s.detector.recentCuts)
    (hs : RecentCutsSound s) : RecentCutsSound t := by
  unfold RecentCutsSound at *
  rwa [h]

/-- While a profile is being written, the held copies of the lanes and the profiles decide. -/
theorem programmingSound_of_held {s t : State} (hp : t.profiles = s.profiles)
    (hl : s.profiles.operation ≠ none →
      t.lanes.incoming.held = s.lanes.incoming.held ∧ t.lanes.outgoing.held = s.lanes.outgoing.held)
    (hs : ProgrammingSound s) : ProgrammingSound t := by
  intro op hop
  simp only [hp] at hop ⊢
  obtain ⟨incoming, outgoing⟩ := hl (by simp [hop])
  rw [incoming, outgoing]
  exact hs op hop

theorem programmingSound_of_idle {s : State} (h : s.profiles.operation = none) : ProgrammingSound s := by
  intro op hop
  simp [h] at hop

theorem openOnlyInActive_of_closed {s : State} (h : s.tracker.openFrame = none) : OpenOnlyInActive s :=
  fun hopen => absurd h hopen

namespace State.LeavesSound

theorem refl (s : State) : s.LeavesSound s := ⟨id, id, id⟩

theorem trans {s t u : State} (a : s.LeavesSound t) (b : t.LeavesSound u) : s.LeavesSound u :=
  ⟨b.frame ∘ a.frame, b.cuts ∘ a.cuts, b.programming ∘ a.programming⟩

/-- An operation that leaves alone the part state, whether a frame is open, and the recent cuts. -/
theorem of_frame {s t : State}
    (h : t.partState = s.partState ∧ t.tracker.openFrame.isSome = s.tracker.openFrame.isSome
      ∧ t.detector.recentCuts = s.detector.recentCuts)
    (programming : ProgrammingSound s → ProgrammingSound t) : s.LeavesSound t := by
  obtain ⟨part, frame, cuts⟩ := h
  refine ⟨fun hs hopen => ?_, recentCutsSound_of_eq cuts, programming⟩
  rw [part]
  exact hs (by rwa [← Option.isSome_iff_ne_none, ← frame, Option.isSome_iff_ne_none])

/-- An operation that leaves alone everything that the three invariants speak of. -/
theorem of_same {s t : State}
    (h : (t.partState = s.partState ∧ t.tracker.openFrame.isSome = s.tracker.openFrame.isSome
      ∧ t.detector.recentCuts = s.detector.recentCuts) ∧ t.profiles = s.profiles ∧ t.lanes = s.lanes) :
    s.LeavesSound t :=
  of_frame h.1 (programmingSound_of_held h.2.1 fun _ => by simp [h.2.2])

end State.LeavesSound

/-! ## Cut Detector (R159, R160) -/

theorem appendCut_sound {n : Int} {l : List Int} (hl : l.length ≤ 16) (hd : l.Nodup) (hn : n ∉ l) :
    (appendCut n l).length ≤ 16 ∧ (appendCut n l).Nodup := by
  have append {k : List Int} (hk : k.length < 16) (hsub : k.Sublist l) :
      (k ++ [n]).length ≤ 16 ∧ (k ++ [n]).Nodup := by
    refine ⟨by simpa using hk, ?_⟩
    rw [← List.concat_eq_append]
    exact (hsub.nodup hd).concat fun hm => hn (hsub.subset hm)
  unfold appendCut
  split
  · exact append (by rw [List.length_drop]; omega) (List.drop_sublist 1 l)
  · exact append (by omega) (List.Sublist.refl l)

/-- R158: a frame is a CUT only when its number is not among the recent cuts. -/
theorem not_mem_recentCuts_of_cut {f : OpenFrame} {changed : Nat} {d : Detector} (h : cutResult f changed d = .cut) :
    f.number ∉ d.recentCuts := by
  intro hm
  unfold cutResult at h
  rw [if_pos hm] at h
  split at h
  · cases h
  · split at h <;> cases h

@[simp] theorem takeReference_recentCuts (f : OpenFrame) (complete : Bool) (means : Vector Nat 384) (s : State) :
    (takeReference f complete means s).detector.recentCuts = s.detector.recentCuts := by
  unfold takeReference
  split <;> rfl

theorem judgeFrame_recentCuts (f : OpenFrame) (complete : Bool) {s : State} (h : RecentCutsSound s) :
    RecentCutsSound (judgeFrame f complete s).1 := by
  unfold judgeFrame
  dsimp only
  split
  · exact recentCutsSound_of_eq (by simp) h
  · refine recentCutsSound_of_eq (takeReference_recentCuts _ _ _ _) ?_
    split
    · next hcut =>
      obtain ⟨hl, hd⟩ := h
      simpa [RecentCutsSound, reportCut] using appendCut_sound hl hd (not_mem_recentCuts_of_cut hcut)
    · exact h

@[simp] theorem discardReference_recentCuts (s : State) :
    (discardReference s).detector.recentCuts = s.detector.recentCuts := rfl

@[simp] theorem requestRecip_recentCuts (s : State) :
    (requestRecip s).detector.recentCuts = s.detector.recentCuts := by
  simp [requestRecip]

@[simp] theorem expireIfDue_recentCuts (s : State) :
    (expireIfDue s).detector.recentCuts = s.detector.recentCuts := by
  unfold expireIfDue
  split <;> simp [expireStopLimit]

@[simp] theorem perforationEdge_recentCuts (d : Direction) (s : State) :
    (perforationEdge d s).detector.recentCuts = s.detector.recentCuts := by
  unfold perforationEdge acceptEdge
  dsimp only
  (repeat' split) <;> simp

@[simp] theorem divisionCompletes_recentCuts (s : State) :
    (divisionCompletes s).detector.recentCuts = s.detector.recentCuts := by
  unfold divisionCompletes handQuotient takeRecipResult
  dsimp only
  (repeat' split) <;> simp

/-! ## Frames -/

/-- An operation that closes the open frame and then leaves the tracker, the recent cuts and the profiles alone. -/
theorem leavesSound_of_close {complete : Bool} {s t : State}
    (h : t.tracker = (closeFrame complete s).tracker
      ∧ t.detector.recentCuts = (closeFrame complete s).detector.recentCuts)
    (hp : t.profiles = s.profiles ∧ t.lanes = s.lanes) : s.LeavesSound t := by
  obtain ⟨tracker, cuts⟩ := h
  refine ⟨fun _ => openOnlyInActive_of_closed (by rw [tracker, closeFrame_openFrame]),
    fun hs => recentCutsSound_of_eq cuts ?_, programmingSound_of_held hp.1 fun _ => by simp [hp.2]⟩
  unfold closeFrame
  split
  · next f _ =>
    unfold closeOpenFrame
    dsimp only
    generalize (if complete = true then f else { f with flags := { f.flags with truncated := true } }) = g
    exact recentCutsSound_of_eq (by simp [endMixWait]) (judgeFrame_recentCuts g complete hs)
  · exact hs

theorem closeFrame_leavesSound (complete : Bool) (s : State) : s.LeavesSound (closeFrame complete s) :=
  leavesSound_of_close ⟨rfl, rfl⟩ (by simp)

/-- R174, R176: while a profile is being written no lane loads. -/
theorem loadProfile_busy {p : ProfileStore} (h : p.operation ≠ none) (n : Fin 32) (k : HeldProfile) :
    (loadProfile p n k).held = k := by
  rw [loadProfile_eq, if_pos h]
  split <;> rfl

theorem openLanes_held_busy {s : State} (h : s.profiles.operation ≠ none) (l : Lookup) :
    (openLanes s l).lanes.incoming.held = s.lanes.incoming.held
      ∧ (openLanes s l).lanes.outgoing.held = s.lanes.outgoing.held := by
  rw [openLanes_eq]
  cases l <;> simp [incomingOpening, outgoingOpening, laneOpening, loadProfile_busy h]

theorem openAfterClose_leavesSound (b : Fin 4) {s : State} (h : s.partState = .active) :
    s.LeavesSound (openAfterClose b s) := by
  refine ⟨fun _ _ => by simpa using h, recentCutsSound_of_eq (by rw [openAfterClose_eq b rfl]),
    programmingSound_of_held (by simp) fun busy => ?_⟩
  have lanes : (openAfterClose b s).lanes = (openLanes s (lookup (openingNumber s) s.gradeList.ordered)).lanes := by
    rw [openAfterClose_eq b rfl, openLanes_eq]
  rw [lanes]
  exact openLanes_held_busy busy _

theorem gradeInOpenFrame_leavesSound (a o : Nat) (w : Word) (s : State) : s.LeavesSound (gradeInOpenFrame a o w s) := by
  unfold gradeInOpenFrame
  split
  · next f hf => exact .of_same (by simp [gradeWord, handToDetector_eq, hf])
  · exact .of_same (by simp [passOrphan])

/-- R92, R95, R97, R100: a picture word opens a frame in ACTIVE, and grades, closes or passes. -/
theorem pictureWord_leavesSound (b : Fin 4) (a o : Nat) (w : Word) {s : State} (h : s.partState = .active) :
    s.LeavesSound (pictureWord b a o w s) := by
  have closed := closeFrame_leavesSound false s
  unfold pictureWord
  split
  · exact (closed.trans (openAfterClose_leavesSound b (by simpa using h))).trans (gradeInOpenFrame_leavesSound a 0 w _)
  · split
    · refine (gradeInOpenFrame_leavesSound a o w s).trans ?_
      unfold closeAtLastOffset
      split
      · exact closeFrame_leavesSound true _
      · exact .refl _
    · exact .of_same (by simp [passOrphan])

/-! ## Profile Store (R178 to R181) -/

theorem HeldProfile.unnumber_ne (k : HeldProfile) (n : Fin 32) : (k.unnumber n).number ≠ some n := by
  unfold HeldProfile.unnumber
  split
  · simp
  · assumption

theorem acceptProgram_programmingSound (n : Fin 32) (s : State) : ProgrammingSound (acceptProgram n s) := by
  intro op hop
  obtain rfl : n = op.number := congrArg Programming.number (Option.some.inj hop)
  exact ⟨by simp [acceptProgram, ProfileStore.setProfile], HeldProfile.unnumber_ne _ _, HeldProfile.unnumber_ne _ _⟩

theorem programProfile_leavesSound (n : Fin 32) (s : State) : s.LeavesSound (programProfile n s) := by
  unfold programProfile
  split
  · exact .of_same (by simp)
  · exact .of_frame (by simp) fun _ => acceptProgram_programmingSound n s

/-- The operation in progress goes on with its number, and its profile keeps its mark. -/
theorem programmingSound_of_phase {s t : State} {op : Programming} (hop : s.profiles.operation = some op)
    (hn : t.profiles.operation.map (·.number) = some op.number)
    (hm : t.profiles.profiles[op.number.val].mark = s.profiles.profiles[op.number.val].mark) (hl : t.lanes = s.lanes)
    (hs : ProgrammingSound s) : ProgrammingSound t := by
  intro op' hop'
  obtain same : op'.number = op.number := by simpa [hop'] using hn
  obtain ⟨mark, held⟩ := hs op hop
  simp only [same, hl]
  exact ⟨hm.trans mark, held⟩

theorem completeCellWrite_leavesSound (took : BitVec 67) (s : State) : s.LeavesSound (completeCellWrite took s) := by
  refine .of_frame (by simp) ?_
  unfold completeCellWrite
  split
  · next op hop =>
    split
    · exact programmingSound_of_phase hop rfl (by simp [ProfileStore.setProfile]) rfl
    · exact id
  · exact id

theorem endOperation_programmingSound (n : Fin 32) (v : Profile) (result : ProgramResult) (s : State) :
    ProgrammingSound (endOperation n v result s) :=
  programmingSound_of_idle (by simp [endOperation])

theorem completeVerify_leavesSound (s : State) : s.LeavesSound (completeVerify s) := by
  refine .of_frame (by simp) ?_
  unfold completeVerify
  split
  · next op hop =>
    split
    · dsimp only
      split
      · exact fun _ => endOperation_programmingSound _ _ _ s
      · exact programmingSound_of_phase hop rfl rfl rfl
    · exact id
  · exact id

theorem timeOutIfDue_leavesSound (s : State) : s.LeavesSound (timeOutIfDue s) := by
  refine .of_frame (by simp) ?_
  unfold timeOutIfDue
  split
  · split
    · exact fun _ => endOperation_programmingSound _ _ _ _
    · exact id
  · exact id

/-! ## Reload engine (R20, R22) -/

/-- R20: a part that leaves LOADING is not ACTIVE, so that no frame is open. -/
theorem leaveLoading_leavesSound (s : State) : s.LeavesSound (leaveLoading s) := by
  refine ⟨fun hs hopen => ?_, recentCutsSound_of_eq (by simp), programmingSound_of_held (by simp) (by simp)⟩
  have active : s.partState = .active := hs (by simpa using hopen)
  simp [leaveLoading, active]

theorem resumeReload_leavesSound (s : State) : s.LeavesSound (resumeReload s) := by
  refine .trans (.of_same ?_) (leaveLoading_leavesSound _)
  split <;> simp

theorem completeTableRead_leavesSound (ref : ItemRef) (part : ItemPart) (discard : Bool) (s : State) :
    s.LeavesSound (completeTableRead ref part discard s) := by
  unfold completeTableRead
  dsimp only
  split
  · exact resumeReload_leavesSound s
  · split <;> exact .trans (.of_same (by simp)) (leaveLoading_leavesSound _)

/-! ## Setup -/

theorem restart_leavesSound (s : State) : s.LeavesSound (restart s) :=
  leavesSound_of_close (complete := false) (by simp [restart]) (by simp)

theorem retarget_leavesSound (t : TableId) (s : State) : s.LeavesSound (retarget t s) :=
  leavesSound_of_close (complete := false) (by simp [retarget]) (by simp)

theorem reloadAll_leavesSound (s : State) : s.LeavesSound (reloadAll s) :=
  leavesSound_of_close (complete := false) (by simp [reloadAll]) (by simp)

theorem enterUnset_leavesSound (s : State) : s.LeavesSound (enterUnset s) :=
  leavesSound_of_close (complete := false) (by simp [enterUnset]) (by simp)

/-- R20: ENABLE opens the part to frames, or closes the open one. -/
theorem enableChanged_leavesSound (s : State) : s.LeavesSound (enableChanged s) := by
  unfold enableChanged
  split
  · split
    · exact ⟨fun _ _ => rfl, id, id⟩
    · exact .refl s
  · split
    · exact .refl s
    · exact leavesSound_of_close (complete := false) (by simp) (by simp)
  all_goals exact .refl s

/-- R166: a preset empties the list of recent cuts. -/
theorem presetFrame_leavesSound (n : Int) (s : State) : s.LeavesSound (presetFrame n s) :=
  ⟨fun hs => hs, fun _ => ⟨Nat.zero_le _, List.nodup_nil⟩, fun hs => hs⟩

theorem issueCommand_leavesSound (w : Word) (s : State) : s.LeavesSound (issueCommand w s) := by
  unfold issueCommand
  split
  · exact .refl s
  · exact presetFrame_leavesSound _ s
  · exact reloadAll_leavesSound s
  · exact programProfile_leavesSound _ s
  all_goals exact .of_same (by simp)

theorem takeWord_leavesSound (k : SetupWord) (w : Word) (s : State) : s.LeavesSound (takeWord k w s) := by
  have taken : s.LeavesSound (s.withSetup (takeFields k w s.setup)) := .of_same (by simp)
  unfold takeWord
  cases k <;> dsimp only
  case control =>
    have attn : s.LeavesSound
        (if (takeFields .control w s.setup).attnEnable ≠ s.setup.attnEnable then
          attnEnableChanged (s.withSetup (takeFields .control w s.setup))
        else s.withSetup (takeFields .control w s.setup)) := .of_same (by split <;> simp)
    split
    · exact attn.trans (enableChanged_leavesSound _)
    · exact attn
  case command => exact issueCommand_leavesSound w s
  case geometry | bufferBase => split; exacts [taken.trans (restart_leavesSound _), .refl s]
  case tableBase => split; exacts [taken.trans (retarget_leavesSound _ _), .refl s]
  all_goals exact .of_same (by (repeat' split) <;> simp)

theorem takeSetup_leavesSound (s : State) : s.LeavesSound (takeSetup s) := by
  have checked : s.LeavesSound (valuesChecked s) := by
    refine .of_same ?_
    unfold valuesChecked valuesTaken
    split <;> simp
  refine checked.trans (leavesSound_of_close (complete := false) ?_ (by simp))
  simp [takeSetup_checked, restart]

/-- What shadow words, setup words, the taking and the entry to UNSET keep, a captured setup word keeps. -/
theorem captureSetup_keeps {P : State → Prop} (shadow : ∀ v s, P s → P (s.withShadow v))
    (word : ∀ k w s, P s → P (takeWord k w s)) (taking : ∀ s, P s → P (takeSetup s))
    (unset : ∀ s, P s → P (enterUnset s)) (k : Fin 64) (w : Word) (s : State) (h : P s) : P (captureSetup k w s) := by
  have shadowed := shadow (s.shadow.set k.val w) s h
  have inUse : P (captureInUse (setupWordAt k) w (s.withShadow (s.shadow.set k.val w))) := by
    unfold captureInUse
    split
    · exact unset _ shadowed
    · exact word _ _ _ shadowed
  unfold captureSetup captureInUnset
  dsimp only
  split
  · exact h
  · split
    · split
      · exact taking _ shadowed
      · exact shadowed
    all_goals exact inUse

theorem completeSetupRead_leavesSound (q : Fin 4) (s : State) : s.LeavesSound (completeSetupRead q s) := by
  have installed : s.LeavesSound (installSetupRead q s) := .of_same (by simp)
  unfold completeSetupRead
  dsimp only
  split
  · exact installed.trans (.of_same (by simp))
  · split
    · exact installed.trans (takeSetup_leavesSound _)
    · exact installed

/-! ## Every step -/

theorem tick_leavesSound (s : State) : s.LeavesSound (tick s) := by
  unfold tick
  split
  · exact .refl s
  · have dues : s.LeavesSound (takeDueTimeouts s) := .trans (.of_same (by simp)) (timeOutIfDue_leavesSound _)
    exact dues.trans (.of_same (by simp))

/-- R21, R181: RST leaves no frame open, no recent cut and no programming operation. -/
theorem resetBlocks_leavesSound (s : State) : s.LeavesSound (resetBlocks (abandonOperation (abandonAccess s))) :=
  ⟨fun _ => openOnlyInActive_of_closed rfl, fun _ => ⟨Nat.zero_le _, List.nodup_nil⟩,
    fun _ => programmingSound_of_idle (abandonOperation_profiles _).1⟩

theorem step_leavesSound {s s' : State} (hs : step s = .next s') : s.LeavesSound s' := by
  refine step_keeps (P := s.LeavesSound) ?pending (forwardWord_keeps ?pass ?fault ?setup ?table ?picture) ?returned
    ?waiting ?reset ?release ?setupRead ?tableRead ?report ?issue ?edge ?stop ?cue ?division ?cells ?verify ?timeOut
    ?select ?tick (.refl s) hs
  case setup =>
    exact captureSetup_keeps (fun _ _ h => h.trans (.of_same (by simp)))
      (fun _ _ _ h => h.trans (takeWord_leavesSound _ _ _)) (fun _ h => h.trans (takeSetup_leavesSound _))
      (fun _ h => h.trans (enterUnset_leavesSound _))
  case picture => exact fun b a o w _ ha _ h => h.trans (pictureWord_leavesSound b a o w ha)
  case reset => exact fun _ h => h.trans (resetBlocks_leavesSound _)
  case release => intro b t h; unfold releaseReset; split; exacts [h.trans (.of_same (by simp)), h]
  case setupRead =>
    exact fun q _ t _ h => (h.trans (.of_same (by simp))).trans (completeSetupRead_leavesSound q (freePort t))
  case tableRead =>
    exact fun ref p d t _ h => (h.trans (.of_same (by simp))).trans (completeTableRead_leavesSound ref p d (freePort t))
  case cells => exact fun k _ h => h.trans (completeCellWrite_leavesSound k _)
  case verify => exact fun _ h => h.trans (completeVerify_leavesSound _)
  case timeOut => exact fun _ h => h.trans (timeOutIfDue_leavesSound _)
  case tick => exact fun _ h => h.trans (tick_leavesSound _)
  all_goals intros
  all_goals exact State.LeavesSound.trans (by assumption) (.of_same (by simp))

/-- Settles O58: every operation of a step meets the one relation. -/
theorem stepsKeepFramesCutsAndProfiles : Obligations.StepsKeepFramesCutsAndProfiles := by
  intro s s' hs
  obtain ⟨frame, cuts, programming⟩ := step_leavesSound hs
  exact ⟨frame, cuts, programming⟩

end Sys2Proof.Machine
end

section
/-! The mix factor (R129): its range and its rise along a dissolve. -/

namespace Sys2Proof.Machine

/-- R129: the step of a dissolve of 1 to 255 frames, from the longest to the shortest. -/
theorem mixStep_range {n : Nat} (h1 : 1 ≤ n) (hn : n ≤ 255) : 256 ≤ 65536 / (n + 1) ∧ 65536 / (n + 1) ≤ 32768 := by
  rw [Nat.le_div_iff_mul_le (by omega)]
  exact ⟨by omega, Nat.div_le_of_le_mul (by omega)⟩

/-- R129: at every position of the dissolve one more step still fits below 65,536. -/
theorem position_mul_step_le {n j : Nat} (hj : j ≤ n) : j * (65536 / (n + 1)) + 65536 / (n + 1) ≤ 65536 := by
  have whole : (n + 1) * (65536 / (n + 1)) ≤ 65536 := Nat.mul_div_le 65536 (n + 1)
  calc j * (65536 / (n + 1)) + 65536 / (n + 1) = (j + 1) * (65536 / (n + 1)) := (Nat.succ_mul _ _).symm
    _ ≤ (n + 1) * (65536 / (n + 1)) := Nat.mul_le_mul_right _ (by omega)
    _ ≤ 65536 := whole

/-- R129: the factor of a position in a dissolve of 1 to 255 frames. -/
theorem mixFactor_range {n j : Nat} (h1 : 1 ≤ j) (hj : j ≤ n) (hn : n ≤ 255) :
    1 ≤ mixFactor j (65536 / (n + 1)) ∧ mixFactor j (65536 / (n + 1)) ≤ 255 := by
  have step := (mixStep_range (h1.trans hj) hn).1
  have least : 1 * (65536 / (n + 1)) ≤ j * (65536 / (n + 1)) := Nat.mul_le_mul_right _ h1
  have most := position_mul_step_le hj
  unfold mixFactor
  omega

/-- R129: a step of at least 256 raises the factor at every position. -/
theorem mixFactor_lt_succ {step : Nat} (h : 256 ≤ step) (j : Nat) : mixFactor j step < mixFactor (j + 1) step := by
  unfold mixFactor
  rw [Nat.succ_mul]
  omega

/-- Settles O50: the range of the step gives the range and the rise of the factor. -/
theorem mixFactorRisesWithin255 : Obligations.MixFactorRisesWithin255 := by
  rintro n j _ h1 hn hj1 hj rfl
  obtain ⟨least, most⟩ := mixStep_range h1 hn
  obtain ⟨low, high⟩ := mixFactor_range hj1 hj hn
  exact ⟨least, most, rfl, low, high, mixFactor_lt_succ least j⟩

end Sys2Proof.Machine
end

section
/-! The Divider Unit's requests (R138 to R142) and the parts of the three invariants that speak of the divider: of its
requests, of the Mix Stage, of the ordered list and of recip. -/

namespace Sys2Proof.Machine

/-! ## Every request of the divider -/

/-- `P` holds of the division in progress and of every pending request, each with its client. -/
def Divider.EachRequest (P : Client → Request → Prop) (d : Divider) : Prop :=
  (∀ v, d.inProgress = some v → P v.client v.request) ∧ ∀ c r, d.slot c = some r → P c r

/-- `P` does not ask whether a stop came after the request (R39). -/
def IgnoresStop (P : Client → Request → Prop) : Prop := ∀ c r, P c r → P c { r with stopped := true }

namespace Divider.EachRequest

variable {P : Client → Request → Prop} {d : Divider}

/-- R139: a request begins or takes its client's slot. -/
theorem request (h : d.EachRequest P) {c : Client} {dividend divisor : Nat} (hr : P c ⟨dividend, divisor, false⟩) :
    (d.request c dividend divisor).EachRequest P := by
  obtain ⟨running, slots⟩ := h
  by_cases idle : d.inProgress = none
  · rw [Divider.request_idle idle]
    refine ⟨fun v hv => ?_, fun k => slots k⟩
    obtain rfl := Option.some.inj hv
    exact hr
  · rw [Divider.request_busy idle]
    refine ⟨fun v hv => running v (by simpa using hv), fun k r hk => ?_⟩
    rw [Divider.slot_setSlot] at hk
    split at hk
    · next same =>
      obtain rfl := Option.some.inj hk
      exact same ▸ hr
    · exact slots k r hk

/-- R140: the first pending request in the order of the clients begins, and its slot is emptied. -/
theorem beginNext (h : d.EachRequest P) : d.beginNext.EachRequest P := by
  obtain ⟨-, slots⟩ := h
  have begun : ∀ c r, d.slot c = some r →
      ({ d.setSlot c none with inProgress := some ⟨c, r⟩ } : Divider).EachRequest P := by
    refine fun c r hr => ⟨fun v hv => ?_, fun k q hk => ?_⟩
    · obtain rfl := Option.some.inj hv
      exact slots c r hr
    · have hk : (d.setSlot c none).slot k = some q := by cases k <;> exact hk
      rw [Divider.slot_setSlot] at hk
      split at hk
      · cases hk
      · exact slots k q hk
  unfold Divider.beginNext
  split
  · next r mix => exact begun .mix r mix
  · next r _ recip => exact begun .recip r recip
  · next r _ _ speed => exact begun .speed r speed
  · exact ⟨fun _ hv => (nomatch hv), fun k r hk => slots k r (by cases k <;> exact hk)⟩

/-- R39: a stop-limit expiry marks requests and makes none. -/
theorem markStopped (hP : IgnoresStop P) (h : d.EachRequest P) : (markStopped d).EachRequest P := by
  obtain ⟨running, slots⟩ := h
  refine ⟨fun v hv => ?_, fun k r hk => ?_⟩
  · obtain ⟨u, hu, rfl⟩ := Option.map_eq_some_iff.1 hv
    split
    · exact hP _ _ (running u hu)
    · exact running u hu
  · cases k with
    | mix | recip => exact slots _ r hk
    | speed =>
      obtain ⟨q, hq, rfl⟩ := Option.map_eq_some_iff.1 hk
      exact hP _ _ (slots .speed q hq)

end Divider.EachRequest

/-! ## The requests that the part makes -/

/-- R143: the dividend of a RECIP request belongs to its divisor. -/
def RecipRequest (r : Request) : Prop := r.dividend = 16777216 + r.divisor - 1

/-- R38, R132, R143: a request as the part makes it from the setup values `u` and the list of `g`: for the length of an
entry's dissolve, for the geometry in use, or for an interval between two edges. -/
def MadeFrom (u : Setup) (g : GradeList) : Client → Request → Prop
  | .mix, r => ∃ e ∈ g.ordered, 1 ≤ e.fields.dissolve ∧ r = ⟨65536, e.fields.dissolve + 1, false⟩
  | .recip, r => r = ⟨16777216 + cellCount u - 1, cellCount u, false⟩
  | .speed, r => ∃ t, t ≠ 0 ∧ r = ⟨100000000, t * u.ppf, false⟩

/-- R129, R134: every entry's dissolve length fits its field of 8 bits. -/
def GradeList.DissolvesInRange (g : GradeList) : Prop := ∀ e ∈ g.ordered, e.fields.dissolve ≤ 255

/-- R14, R143: the least geometry has cells. -/
theorem cellCount_ne_zero {u : Setup} (h : u.InRange) : cellCount u ≠ 0 := by
  obtain ⟨⟨hw, -⟩, ⟨hh, -⟩, -⟩ := h
  exact Nat.mul_ne_zero (by unfold cellWidth; omega) (by unfold cellHeight; omega)

namespace MadeFrom

variable {u : Setup} {g : GradeList} {r : Request}

theorem divisor_ne_zero (hu : u.InRange) {c : Client} (h : MadeFrom u g c r) : r.divisor ≠ 0 := by
  cases c with
  | mix =>
    obtain ⟨e, -, -, rfl⟩ := h
    exact Nat.succ_ne_zero _
  | recip =>
    obtain rfl := h
    exact cellCount_ne_zero hu
  | speed =>
    obtain ⟨t, ht, rfl⟩ := h
    obtain ⟨-, -, ⟨hppf, -⟩, -⟩ := hu
    exact Nat.mul_ne_zero ht (by omega)

theorem mixRequest (hg : g.DissolvesInRange) (h : MadeFrom u g .mix r) : MixRequest r := by
  obtain ⟨e, he, h1, rfl⟩ := h
  have := hg e he
  exact ⟨rfl, by simp only; omega, by simp only; omega⟩

theorem recipRequest (h : MadeFrom u g .recip r) : RecipRequest r := by
  obtain rfl := h
  rfl

end MadeFrom

/-! ## The parts of the invariants -/

/-- R128, R129: 256, or the factor of a position in a dissolve of 1 to 255 frames. -/
def HeldFactor (m : Nat) : Prop :=
  (1 ≤ m ∧ m ≤ 256) ∧ (m = 256 ∨ ∃ n j, 1 ≤ j ∧ j ≤ n ∧ n ≤ 255 ∧ m = (j * (65536 / (n + 1)) + 128) / 256)

theorem heldFactor_256 : HeldFactor 256 := ⟨by decide, .inl rfl⟩

theorem heldFactor_mixFactor {n j : Nat} (h1 : 1 ≤ j) (hj : j ≤ n) (hn : n ≤ 255) :
    HeldFactor (mixFactor j (65536 / (n + 1))) := by
  obtain ⟨low, high⟩ := mixFactor_range h1 hj hn
  exact ⟨⟨low, by omega⟩, .inr ⟨n, j, h1, hj, hn, rfl⟩⟩

/-- R128, R134: the cached pair is a length of 1 to 255 with its step. -/
def StepPair.Exact (c : StepPair) : Prop := (1 ≤ c.length ∧ c.length ≤ 255) ∧ c.step = 65536 / (c.length + 1)

/-- R128: the waiting record is a position in a dissolve of at most 255 frames. -/
def WaitingStep.InDissolve (w : WaitingStep) : Prop := 1 ≤ w.j ∧ w.j ≤ w.length ∧ w.length ≤ 255

/-- What `MixSound` says of the Mix Stage alone. -/
structure MixStage.Sound (m : MixStage) : Prop where
  current : HeldFactor m.current
  cache : ∀ c, m.cache = some c → c.Exact
  waiting : ∀ w, m.waiting = some w → w.InDissolve

/-- R144: while the RECIP-valid mark is set, recip is the reciprocal of `cells`. -/
def Detector.RecipFor (cells : Nat) (d : Detector) : Prop :=
  d.recipValid = true → d.recip = some ((16777216 + cells - 1) / cells)

theorem divisorsNonzero_iff (s : State) : DivisorsNonzero s ↔ s.divider.EachRequest fun _ r => r.divisor ≠ 0 := Iff.rfl

/-- A condition on one client's requests is one on the division in progress and on that client's slot. -/
theorem Divider.eachRequest_of_client {c : Client} {Q : Request → Prop} {d : Divider} :
    (d.EachRequest fun k r => k = c → Q r) ↔
      (∀ v, d.inProgress = some v → v.client = c → Q v.request) ∧ ∀ r, d.slot c = some r → Q r := by
  refine and_congr_right fun _ => ⟨fun h r hr => h c r hr rfl, fun h k r hk same => ?_⟩
  subst same
  exact h r hk

theorem mixSound_iff (s : State) :
    MixSound s ↔ s.mix.Sound ∧ s.gradeList.DissolvesInRange
      ∧ s.divider.EachRequest fun c r => c = .mix → MixRequest r := by
  rw [Divider.eachRequest_of_client]
  constructor
  · rintro ⟨range, factor, cache, waiting, list, running, slot⟩
    exact ⟨⟨⟨range, factor⟩, cache, waiting⟩, list, running, slot⟩
  · rintro ⟨⟨⟨range, factor⟩, cache, waiting⟩, list, running, slot⟩
    exact ⟨range, factor, cache, waiting, list, running, slot⟩

theorem recipSound_iff (s : State) :
    RecipSound s ↔ (s.divider.EachRequest fun c r => c = .recip → RecipRequest r)
      ∧ s.detector.RecipFor (cellCount s.setup) := by
  rw [Divider.eachRequest_of_client, and_assoc]
  rfl

end Sys2Proof.Machine
end

section
/-! The divisors, the mix factor and recip (R128, R129, R134, R138, R142 to R144): what each operation leaves of the
three invariants, and that every step keeps them. -/

namespace Sys2Proof.Machine

/-! ## The relation between two states -/

/-- Each of the three invariants that holds in `s` holds in `t`. -/
structure State.KeepsDivider (s t : State) : Prop where
  divisors : SetupInRange s ∧ DivisorsNonzero s → SetupInRange t ∧ DivisorsNonzero t
  mix : MixSound s → MixSound t
  recip : RecipSound s → RecipSound t

/-- Recip and its mark. -/
def Detector.heldRecip (d : Detector) : Option Nat × Bool := (d.recip, d.recipValid)

theorem recipFor_of_eq {d e : Detector} (h : e.heldRecip = d.heldRecip) {cells : Nat} (hd : d.RecipFor cells) :
    e.RecipFor cells := by
  obtain ⟨recip, valid⟩ := Prod.mk.inj h
  unfold Detector.RecipFor at *
  rwa [recip, valid]

namespace State.KeepsDivider

theorem refl (s : State) : s.KeepsDivider s := ⟨id, id, id⟩

theorem trans {s t u : State} (a : s.KeepsDivider t) (b : t.KeepsDivider u) : s.KeepsDivider u :=
  ⟨b.divisors ∘ a.divisors, b.mix ∘ a.mix, b.recip ∘ a.recip⟩

/-- An operation whose new requests are made from the values it leaves. -/
theorem of_parts {s t : State} (setup : SetupInRange s → SetupInRange t)
    (list : s.gradeList.DissolvesInRange → t.gradeList.DissolvesInRange)
    (mix : s.gradeList.DissolvesInRange → s.mix.Sound → t.mix.Sound)
    (requests : ∀ P, IgnoresStop P → (∀ c r, MadeFrom t.setup t.gradeList c r → P c r) → s.divider.EachRequest P →
      t.divider.EachRequest P)
    (recip : s.detector.RecipFor (cellCount s.setup) → t.detector.RecipFor (cellCount t.setup)) : s.KeepsDivider t where
  divisors := fun ⟨hs, hd⟩ =>
    ⟨setup hs, requests _ (fun _ _ h => h) (fun _ _ made => made.divisor_ne_zero (setup hs)) hd⟩
  mix h := by
    obtain ⟨hm, hl, hd⟩ := (mixSound_iff s).1 h
    refine (mixSound_iff t).2 ⟨mix hl hm, list hl, requests _ (fun _ _ h => h) ?_ hd⟩
    rintro c r made rfl
    exact made.mixRequest (list hl)
  recip h := by
    obtain ⟨hd, hr⟩ := (recipSound_iff s).1 h
    refine (recipSound_iff t).2 ⟨requests _ (fun _ _ h => h) ?_ hd, recip hr⟩
    rintro c r made rfl
    exact made.recipRequest

/-- An operation that, of all that the invariants speak of, changes the ordered list at most. -/
theorem of_list {s t : State}
    (h : t.setup = s.setup ∧ t.mix = s.mix ∧ t.divider = s.divider ∧ t.detector.heldRecip = s.detector.heldRecip)
    (list : s.gradeList.DissolvesInRange → t.gradeList.DissolvesInRange) : s.KeepsDivider t := by
  obtain ⟨setup, mix, divider, recip⟩ := h
  refine of_parts ?_ list (fun _ h => mix ▸ h) (fun _ _ _ h => divider ▸ h) fun h => ?_
  · rw [setupInRange_iff, setupInRange_iff, setup]
    exact id
  · rw [setup]
    exact recipFor_of_eq recip h

/-- An operation that leaves alone everything that the invariants speak of. -/
theorem of_same {s t : State}
    (h : (t.setup = s.setup ∧ t.mix = s.mix ∧ t.divider = s.divider ∧ t.detector.heldRecip = s.detector.heldRecip)
      ∧ t.gradeList = s.gradeList) : s.KeepsDivider t :=
  of_list h.1 fun hl => h.2 ▸ hl

end State.KeepsDivider

/-! ## Cut Detector -/

@[simp] theorem takeReference_heldRecip (f : OpenFrame) (complete : Bool) (means : Vector Nat 384) (s : State) :
    (takeReference f complete means s).detector.heldRecip = s.detector.heldRecip := by
  unfold takeReference
  split <;> rfl

@[simp] theorem reportCut_heldRecip (f : OpenFrame) (changed : Nat) (s : State) :
    (reportCut f changed s).detector.heldRecip = s.detector.heldRecip := by
  simp [reportCut, Detector.heldRecip]

@[simp] theorem judgeFrame_heldRecip (f : OpenFrame) (complete : Bool) (s : State) :
    (judgeFrame f complete s).1.detector.heldRecip = s.detector.heldRecip := by
  unfold judgeFrame
  dsimp only
  split
  · simp
  · split <;> simp

@[simp] theorem discardReference_heldRecip (s : State) :
    (discardReference s).detector.heldRecip = s.detector.heldRecip := rfl

@[simp] theorem expireIfDue_heldRecip (s : State) : (expireIfDue s).detector.heldRecip = s.detector.heldRecip :=
  (congrArg Detector.heldRecip (expireIfDue_detector s) :)

@[simp] theorem perforationEdge_heldRecip (d : Direction) (s : State) :
    (perforationEdge d s).detector.heldRecip = s.detector.heldRecip := by
  unfold perforationEdge acceptEdge
  dsimp only
  (repeat' split) <;> simp

@[simp] theorem handToDetector_heldRecip (f : OpenFrame) (x y : Nat) (v : Rgb Int) (s : State) :
    (handToDetector f x y v s).detector.heldRecip = s.detector.heldRecip := by
  rw [handToDetector_eq]
  rfl

/-! ## The ordered list (R47 to R57) -/

/-- R200: a slot's dissolve length is a field of 8 bits. -/
theorem slotFields_dissolve_le (c : Committed 3) : c.slotFields.dissolve ≤ 255 := by
  have := (c.rest[0].extractLsb' 16 8).isLt
  simp only [Committed.slotFields, bits]
  omega

/-- R49 to R54: an entry of the list after a slot commit was in it before, or has the fields that the commit brings. -/
theorem mem_commit {g : GradeList} {byReload : Bool} {i : Fin 512} {valid : Bool} {f : SlotFields} {e : Entry}
    (h : e ∈ (g.commit byReload i valid f).1.ordered) : e ∈ g.ordered ∨ e.fields = f := by
  have old : ∀ {x}, x ∈ removeSlot i g.ordered → x ∈ g.ordered := fun hx => ((mem_removeSlot _ _ _).1 hx).1
  unfold GradeList.commit at h
  dsimp only at h
  split at h
  · split at h
    · split at h
      · rcases (mem_insertEntry _ _ _).1 h with rfl | h
        · exact .inr rfl
        · exact .inl (old h)
      · split at h
        · rcases (mem_insertEntry _ _ _).1 h with rfl | h
          · exact .inr rfl
          · exact .inl (old ((mem_removeSlot _ _ _).1 h).1)
        · exact .inl (old h)
    · exact .inl (old h)
  · exact .inl (old h)

theorem dissolvesInRange_kept : GradeList.Kept GradeList.DissolvesInRange where
  commit _ _ _ _ c hg e he := by
    rcases mem_commit he with he | he
    · exact hg e he
    · exact he ▸ slotFields_dissolve_le c
  reset := fun _ h => (nomatch h)

/-! ## Mix Stage (R128 to R135) -/

/-- R99, R135: the end of a wait leaves the held factor and the cache. -/
theorem MixStage.Sound.withoutWaiting {m : MixStage} (h : m.Sound) : MixStage.Sound { m with waiting := none } :=
  ⟨h.current, h.cache, fun _ hw => (nomatch hw)⟩

theorem mem_of_coveringFrom {f : Int} {l : List Entry} {best : Option (Entry × Option Entry)} {r : Entry × Option Entry}
    (h : coveringFrom f best l = some r) : r.1 ∈ l ∨ best = some r := by
  induction l generalizing best with
  | nil => exact .inr h
  | cons x l ih =>
    unfold coveringFrom at h
    split at h
    · rcases ih h with hm | hb
      · exact .inl (List.mem_cons_of_mem x hm)
      · obtain rfl := Option.some.inj hb
        exact .inl List.mem_cons_self
    · exact .inr h

/-- R61, R63: a frame in a dissolve lies at a position of an entry's dissolve. -/
theorem lookup_dissolve {f : Int} {l : List Entry} {e o : Entry} {a : Bool} {j : Nat}
    (h : lookup f l = .dissolve e a o j) : e ∈ l ∧ 1 ≤ j ∧ j ≤ e.fields.dissolve := by
  unfold lookup at h
  split at h
  · cases h
  · cases h
  · next c p hc =>
    split at h
    · next inside =>
      obtain ⟨rfl, -, -, rfl⟩ := Lookup.dissolve.inj h
      refine ⟨(mem_of_coveringFrom hc).resolve_right (by simp), ?_, ?_⟩ <;> omega
    · cases h

/-- R130 to R132: the factor of a frame that opens is 256, or that of its position by the cached step. -/
theorem mixOpening_sound {m : MixStage} (hm : m.Sound) (d : Divider) {f : Int} {l : List Entry}
    (hl : ∀ e ∈ l, e.fields.dissolve ≤ 255) : (mixOpening m d (lookup f l)).1.Sound := by
  unfold mixOpening
  split
  · exact ⟨heldFactor_256, hm.cache, fun _ h => (nomatch h)⟩
  · exact ⟨heldFactor_256, hm.cache, fun _ h => (nomatch h)⟩
  · next e a o j hlookup =>
    obtain ⟨he, h1, hj⟩ := lookup_dissolve hlookup
    have hn := hl e he
    split
    · next cached =>
      obtain ⟨q, hq, length⟩ := cached
      have step : q.step = 65536 / (e.fields.dissolve + 1) := length ▸ (hm.cache q hq).2
      refine ⟨?_, hm.cache, fun _ h => (nomatch h)⟩
      simp only [hq, Option.getD_some, step]
      exact heldFactor_mixFactor h1 hj hn
    · refine ⟨hm.current, hm.cache, fun w hw => ?_⟩
      obtain rfl := Option.some.inj hw
      exact ⟨h1, hj, hn⟩

/-- R132: a frame that opens asks for the step of its entry's dissolve at most. -/
theorem mixOpening_requests {P : Client → Request → Prop} (m : MixStage) {d : Divider} (hd : d.EachRequest P) {f : Int}
    {u : Setup} {g : GradeList} (made : ∀ c r, MadeFrom u g c r → P c r) :
    (mixOpening m d (lookup f g.ordered)).2.1.EachRequest P := by
  unfold mixOpening
  split
  · exact hd
  · exact hd
  · next e a o j hlookup =>
    obtain ⟨he, h1, hj⟩ := lookup_dissolve hlookup
    split
    · exact hd
    · exact hd.request (made _ _ ⟨e, he, h1.trans hj, rfl⟩)

/-- R133: a MIX result for a length serves the cache and a waiting record of that length. -/
theorem takeMixResult_sound {r : Request} (hr : MixRequest r) {s : State} (hm : s.mix.Sound) :
    (takeMixResult r.divisor (r.dividend / r.divisor) s).mix.Sound := by
  obtain ⟨dividend, least, most⟩ := hr
  have pair : StepPair.Exact { length := r.divisor - 1, step := r.dividend / r.divisor } := by
    refine ⟨by simp only; omega, ?_⟩
    simp only [dividend, Nat.sub_add_cancel (show 1 ≤ r.divisor by omega)]
  have cached : ∀ c, some (StepPair.mk (r.divisor - 1) (r.dividend / r.divisor)) = some c → c.Exact := by
    rintro c ⟨⟩
    exact pair
  rw [takeMixResult_eq]
  simp only [State.withMix_mix]
  split
  · next w hw =>
    obtain ⟨h1, hj, hn⟩ := hm.waiting w hw
    split
    · next length =>
      refine ⟨?_, cached, fun _ h => (nomatch h)⟩
      have step := pair.2
      simp only at step
      rw [step, ← length]
      exact heldFactor_mixFactor h1 hj hn
    · exact ⟨hm.current, cached, hm.waiting⟩
  · exact ⟨hm.current, cached, hm.waiting⟩

/-! ## Frames -/

theorem closeFrame_mix_sound (complete : Bool) {s : State} (h : s.mix.Sound) : (closeFrame complete s).mix.Sound := by
  unfold closeFrame
  split
  · simpa [closeOpenFrame, endMixWait] using h.withoutWaiting
  · exact h

@[simp] theorem closeFrame_heldRecip (complete : Bool) (s : State) :
    (closeFrame complete s).detector.heldRecip = s.detector.heldRecip := by
  unfold closeFrame
  split
  · simp [closeOpenFrame]
  · rfl

theorem closeFrame_keepsDivider (complete : Bool) (s : State) : s.KeepsDivider (closeFrame complete s) :=
  .of_parts (by simp [setupInRange_iff]) (by simp) (fun _ => closeFrame_mix_sound complete) (by simp)
    fun h => recipFor_of_eq (closeFrame_heldRecip complete s) (by simpa using h)

theorem openAfterClose_keepsDivider (b : Fin 4) (s : State) : s.KeepsDivider (openAfterClose b s) := by
  rw [openAfterClose_eq b rfl]
  exact .of_parts id id (fun hl hm => mixOpening_sound hm _ hl) (fun _ _ made hd => mixOpening_requests _ hd made) id

theorem gradeInOpenFrame_keepsDivider (a o : Nat) (w : Word) (s : State) :
    s.KeepsDivider (gradeInOpenFrame a o w s) := by
  unfold gradeInOpenFrame
  split
  · exact .of_same (by simp [gradeWord])
  · exact .of_same (by simp [passOrphan])

/-- R92, R95, R97, R100: a picture word opens a frame, grades, closes or passes. -/
theorem pictureWord_keepsDivider (b : Fin 4) (a o : Nat) (w : Word) (s : State) :
    s.KeepsDivider (pictureWord b a o w s) := by
  unfold pictureWord
  split
  · exact ((closeFrame_keepsDivider false s).trans (openAfterClose_keepsDivider b _)).trans
      (gradeInOpenFrame_keepsDivider a 0 w _)
  · split
    · refine (gradeInOpenFrame_keepsDivider a o w s).trans ?_
      unfold closeAtLastOffset
      split
      · exact closeFrame_keepsDivider true _
      · exact .refl _
    · exact .of_same (by simp [passOrphan])

/-! ## Footage Counter -/

/-- R39: an expiry leaves the divider, or marks its SPEED requests. -/
theorem expireIfDue_divider (s : State) :
    (expireIfDue s).divider = s.divider ∨ (expireIfDue s).divider = markStopped s.divider := by
  unfold expireIfDue
  split
  · exact .inr (by simp [expireStopLimit])
  · exact .inl rfl

theorem Divider.EachRequest.of_expiry {P : Client → Request → Prop} (hP : IgnoresStop P) {d e : Divider}
    (h : e = d ∨ e = Machine.markStopped d) (hd : d.EachRequest P) : e.EachRequest P := by
  rcases h with rfl | rfl
  · exact hd
  · exact hd.markStopped hP

theorem expireIfDue_keepsDivider (s : State) : s.KeepsDivider (expireIfDue s) :=
  .of_parts (by simp [setupInRange_iff]) (by simp) (by simp) (fun _ hP _ hd => hd.of_expiry hP (expireIfDue_divider s))
    fun h => recipFor_of_eq (expireIfDue_heldRecip s) (by simpa using h)

/-- R32: an interval of 0 µs is invalid. -/
theorem edgeInterval_ne_zero {f : Footage} {t : Nat} (h : edgeInterval f = some t) : t ≠ 0 := by
  unfold edgeInterval at h
  split at h
  · split at h
    · cases h
    · next nonzero => exact Option.some.inj h ▸ nonzero
  all_goals cases h

/-- R38: a request of the SPEED client is made from a valid interval. -/
theorem requestSpeed_requests {P : Client → Request → Prop} {before after : Footage} {s : State}
    (made : ∀ c r, MadeFrom s.setup s.gradeList c r → P c r) (interval : ∀ t, after.interval = some t → t ≠ 0)
    (h : s.divider.EachRequest P) : (requestSpeed before after s).divider.EachRequest P := by
  unfold requestSpeed requestDivision
  split
  · next t ht =>
    split
    · exact h.request (made _ _ ⟨t, interval t ht, rfl⟩)
    · exact h
  · exact h

theorem acceptEdge_requests {P : Client → Request → Prop} (d : Direction) {s : State}
    (made : ∀ c r, MadeFrom s.setup s.gradeList c r → P c r) (h : s.divider.EachRequest P) :
    (acceptEdge d s).divider.EachRequest P := by
  unfold acceptEdge
  dsimp only
  refine requestSpeed_requests ?_ (fun t ht => edgeInterval_ne_zero ht) ?_
  · split <;> split <;> simpa using made
  · split <;> split <;> simpa using h

theorem perforationEdge_keepsDivider (d : Direction) (s : State) : s.KeepsDivider (perforationEdge d s) := by
  refine .of_parts (by simp [setupInRange_iff]) (by simp) (by simp) (fun P _ made hd => ?_)
    fun h => recipFor_of_eq (perforationEdge_heldRecip d s) (by simpa using h)
  simp only [perforationEdge_frame] at made
  unfold perforationEdge
  split
  · exact hd
  · split
    · exact acceptEdge_requests d made hd
    · exact hd

/-! ## Completions (R133, R144) -/

theorem handQuotient_mix_sound {v : Division} (hv : v.client = .mix → MixRequest v.request) {s : State}
    (h : s.mix.Sound) : (handQuotient v s).mix.Sound := by
  unfold handQuotient
  dsimp only
  split
  · next client => exact takeMixResult_sound (hv client) h
  · simpa using h
  · simpa using h

/-- R144: the quotient of a RECIP request for the geometry in use is its reciprocal. -/
theorem handQuotient_recipFor {v : Division} (hv : v.client = .recip → RecipRequest v.request) {s : State}
    (h : s.detector.RecipFor (cellCount s.setup)) : (handQuotient v s).detector.RecipFor (cellCount s.setup) := by
  unfold handQuotient
  dsimp only
  split
  · simpa using h
  · next client =>
    rw [takeRecipResult_eq]
    simp only [State.withDetector_detector]
    split
    · next same =>
      intro _
      rw [hv client, same]
    · exact h
  · simpa using h

/-- R138, R140, R141: the next division begins, and the quotient of a request goes to its client. -/
theorem divisionCompletes_keepsDivider (s : State) : s.KeepsDivider (divisionCompletes s) := by
  unfold divisionCompletes
  split
  · next v hv =>
    refine ⟨fun ⟨hs, hd⟩ => ⟨by simpa [setupInRange_iff] using hs, ?_⟩, fun h => ?_, fun h => ?_⟩
    · rw [divisorsNonzero_iff] at hd ⊢
      simpa using hd.beginNext
    · obtain ⟨hm, hl, hd⟩ := (mixSound_iff s).1 h
      exact (mixSound_iff _).2 ⟨handQuotient_mix_sound (hd.1 v hv) hm, by simpa using hl, by simpa using hd.beginNext⟩
    · obtain ⟨hd, hr⟩ := (recipSound_iff s).1 h
      refine (recipSound_iff _).2 ⟨by simpa using hd.beginNext, ?_⟩
      simpa using handQuotient_recipFor (s := s.withDivider s.divider.beginNext) (hd.1 v hv) hr
  · exact .refl s

/-! ## Setup -/

/-- R11, R143: a restart after a change of the values in use asks for the reciprocal of the new geometry and marks recip
invalid until it comes. -/
theorem restart_keepsDivider {s t : State} (setup : SetupInRange s → SetupInRange t) (list : t.gradeList = s.gradeList)
    (mix : t.mix = s.mix) (divider : t.divider = s.divider ∨ t.divider = markStopped s.divider) :
    s.KeepsDivider (restart t) := by
  refine .of_parts (by simpa [setupInRange_iff] using setup) (by simp [list]) (fun _ hm => ?_) (fun P hP made hd => ?_)
    fun _ valid => ?_
  · rw [restart_eq]
    exact closeFrame_mix_sound false (mix ▸ hm)
  · simp only [restart_frame] at made
    rw [restart_eq]
    exact (hd.of_expiry hP divider).request (made .recip _ rfl)
  · rw [restart_eq] at valid
    cases valid

/-- A change of setup values that leaves the geometry alone. -/
theorem withSetup_keepsDivider {s : State} {u : Setup} (range : s.setup.InRange → u.InRange)
    (width : u.width = s.setup.width) (height : u.height = s.setup.height) : s.KeepsDivider (s.withSetup u) := by
  refine .of_parts range id (fun _ => id) (fun _ _ _ => id) fun h => ?_
  have cells : cellCount u = cellCount s.setup := by simp only [cellCount, cellWidth, cellHeight, width, height]
  simpa [cells] using h

/-- R199: the geometry is taken from setup word 4 alone. -/
theorem takeFields_geometry {k : SetupWord} (hk : k ≠ .geometry) (w : Word) (u : Setup) :
    (takeFields k w u).width = u.width ∧ (takeFields k w u).height = u.height := by
  unfold takeFields
  cases k <;> dsimp only
  case geometry => contradiction
  case legal => split <;> exact ⟨rfl, rfl⟩
  all_goals exact ⟨rfl, rfl⟩

theorem retarget_keepsDivider (t : TableId) (s : State) : s.KeepsDivider (retarget t s) :=
  (closeFrame_keepsDivider false s).trans
    (.of_list (by simp [retarget]) fun h => dissolvesInRange_kept.retarget t s (by simpa using h))

theorem reloadAll_keepsDivider (s : State) : s.KeepsDivider (reloadAll s) :=
  (closeFrame_keepsDivider false s).trans (.of_list (by simp [reloadAll]) fun _ => dissolvesInRange_kept.reloadAll s)

theorem enterUnset_keepsDivider (s : State) : s.KeepsDivider (enterUnset s) :=
  (closeFrame_keepsDivider false s).trans (.of_list (by simp [enterUnset]) fun _ => dissolvesInRange_kept.enterUnset s)

theorem enableChanged_keepsDivider (s : State) : s.KeepsDivider (enableChanged s) := by
  unfold enableChanged
  split
  · split <;> exact .of_same (by simp)
  · split
    · exact .refl s
    · exact (closeFrame_keepsDivider false s).trans (.of_same (by simp))
  all_goals exact .refl s

theorem issueCommand_keepsDivider (w : Word) (s : State) : s.KeepsDivider (issueCommand w s) := by
  unfold issueCommand
  split
  · exact .refl s
  · exact .of_same (by simp [presetFrame, clearDetectorLists, Detector.heldRecip])
  · exact reloadAll_keepsDivider s
  all_goals exact .of_same (by simp)

theorem takeWord_keepsDivider (k : SetupWord) (w : Word) (s : State) : s.KeepsDivider (takeWord k w s) := by
  have range : s.setup.InRange → (takeFields k w s.setup).InRange := takeFields_inRange k w s.setup
  by_cases hk : k = .geometry
  · subst hk
    unfold takeWord
    dsimp only
    split
    · exact restart_keepsDivider range rfl rfl (.inl rfl)
    · exact .refl s
  obtain ⟨width, height⟩ := takeFields_geometry hk w s.setup
  have taken := withSetup_keepsDivider range width height
  unfold takeWord
  cases k <;> dsimp only
  case geometry => contradiction
  case control =>
    have attn : s.KeepsDivider
        (if (takeFields .control w s.setup).attnEnable ≠ s.setup.attnEnable then
          attnEnableChanged (s.withSetup (takeFields .control w s.setup))
        else s.withSetup (takeFields .control w s.setup)) := taken.trans (.of_same (by split <;> simp))
    split
    · exact attn.trans (enableChanged_keepsDivider _)
    · exact attn
  case command => exact issueCommand_keepsDivider w s
  case bufferBase => split; exacts [restart_keepsDivider range rfl rfl (.inl rfl), .refl s]
  case tableBase => split; exacts [taken.trans (retarget_keepsDivider _ _), .refl s]
  case ringBase | ringSize => split; exacts [taken.trans (.of_same (by simp)), .refl s]
  case footage => split; exacts [taken.trans (.of_same (by simp)), taken]
  case stopLimit => exact taken.trans (expireIfDue_keepsDivider _)
  case legal => unfold takeLegalWord; split; exacts [.of_same (by simp), taken]
  case consumer => exact .of_same (by simp)
  case head | noField => exact .refl s
  all_goals exact taken

theorem valuesChecked_divider (s : State) :
    (valuesChecked s).divider = s.divider ∨ (valuesChecked s).divider = markStopped s.divider := by
  have taken : (valuesTaken s).divider = s.divider := by
    unfold valuesTaken
    split <;> simp
  simpa [valuesChecked, taken] using expireIfDue_divider (valuesTaken s)

theorem takeSetup_keepsDivider (s : State) : s.KeepsDivider (takeSetup s) := by
  have range : SetupInRange s → SetupInRange (valuesChecked s) := fun h => by
    simpa [setupInRange_iff] using takeShadow_keeps takeFields_inRange s.shadow ((setupInRange_iff s).1 h)
  have restarted := restart_keepsDivider range (by simp) (by simp) (valuesChecked_divider s)
  rw [takeSetup_checked]
  exact restarted.trans (.of_list (by simp) fun h => dissolvesInRange_kept.resumeReload _ (by simpa using h))

theorem completeSetupRead_keepsDivider (q : Fin 4) (s : State) : s.KeepsDivider (completeSetupRead q s) := by
  have installed : s.KeepsDivider (installSetupRead q s) := .of_same (by simp)
  unfold completeSetupRead
  dsimp only
  split
  · exact installed.trans (.of_same (by simp))
  · split
    · exact installed.trans (takeSetup_keepsDivider _)
    · exact installed

/-! ## Every step -/

theorem tick_keepsDivider (s : State) : s.KeepsDivider (tick s) := by
  unfold tick
  split
  · exact .refl s
  · exact (expireIfDue_keepsDivider s).trans (.of_same (by simp [takeDueTimeouts]))

/-- R21, R146: RST leaves the reset values in every block that the invariants speak of. -/
theorem resetBlocks_keepsDivider (s t : State) : s.KeepsDivider (resetBlocks t) :=
  ⟨fun _ => ⟨resetBlocks_setupInRange t, divisorsNonzero_reset⟩, fun _ => mixSound_reset,
    fun _ => ⟨fun _ h => (nomatch h), fun _ h => (nomatch h), fun h => (nomatch h)⟩⟩

theorem step_keepsDivider {s s' : State} (hs : step s = .next s') : s.KeepsDivider s' := by
  refine step_keeps (P := s.KeepsDivider) ?pending (forwardWord_keeps ?pass ?fault ?setup ?table ?picture) ?returned
    ?waiting ?reset ?release ?setupRead ?tableRead ?report ?issue ?edge ?stop ?cue ?division ?cells ?verify ?timeOut
    ?select ?tick (.refl s) hs
  case setup =>
    exact captureSetup_keeps (fun _ _ h => h.trans (.of_same (by simp)))
      (fun _ _ _ h => h.trans (takeWord_keepsDivider _ _ _)) (fun _ h => h.trans (takeSetup_keepsDivider _))
      (fun _ h => h.trans (enterUnset_keepsDivider _))
  case table =>
    exact fun ref o w t _ h => h.trans (.of_list (by simp) (dissolvesInRange_kept.captureTableWord ref o w t))
  case picture => exact fun b a o w _ _ _ h => h.trans (pictureWord_keepsDivider b a o w _)
  case reset => exact fun _ _ => resetBlocks_keepsDivider _ _
  case release => intro b t h; unfold releaseReset; split; exacts [h.trans (.of_same (by simp)), h]
  case setupRead =>
    exact fun q _ t _ h => (h.trans (.of_same (by simp))).trans (completeSetupRead_keepsDivider q (freePort t))
  case tableRead =>
    exact fun ref p d t _ h =>
      h.trans (.of_list (by simp) fun hl => dissolvesInRange_kept.completeTableRead ref p d _ (by simpa using hl))
  case edge => exact fun d _ h => h.trans (perforationEdge_keepsDivider d _)
  case stop => exact fun _ h => h.trans (expireIfDue_keepsDivider _)
  case division => exact fun _ h => h.trans (divisionCompletes_keepsDivider _)
  case tick => exact fun _ h => h.trans (tick_keepsDivider _)
  all_goals intros
  all_goals exact State.KeepsDivider.trans (by assumption) (.of_same (by simp))

/-- Settles O56: every operation of a step meets the one relation. -/
theorem stepsKeepTheDivider : Obligations.StepsKeepTheDivider := by
  intro s s' hs
  obtain ⟨divisors, mix, recip⟩ := step_keepsDivider hs
  exact ⟨fun hr hd => (divisors ⟨hr, hd⟩).2, mix, recip⟩

end Sys2Proof.Machine
end

section
/-! The judgement of a frame at its close (R152 to R164): the means, the changed cells, the outcome, the CUT record and the
new reference. -/

namespace Sys2Proof.Machine

/-! ## Means and changed cells (R152, R157) -/

theorem getElem_cellMeans (recip : Nat) (sums : Vector Nat 384) (i : Nat) (hi : i < 384) :
    (cellMeans recip sums)[i] = min (sums[i] * recip / 16777216) 1023 := by
  simp [cellMeans, cellMean]

/-- R157: the cells counted pair by pair are the cells counted by their index. -/
theorem changedCells_eq_length_filter (threshold : Nat) (means reference : Vector Nat 384) :
    changedCells threshold means reference =
      ((List.finRange 384).filter fun i : Fin 384 =>
        decide (threshold < ((means[i.val] : Int) - (reference[i.val] : Int)).natAbs)).length := by
  have pairs : List.zip means.toList reference.toList =
      (List.finRange 384).map fun i : Fin 384 => (means[i.val], reference[i.val]) :=
    List.ext_getElem (by simp) fun i _ _ => by simp
  have difference (m n : Nat) : max m n - min m n = ((m : Int) - n).natAbs := by omega
  rw [changedCells, pairs, List.countP_map, List.countP_eq_length_filter]
  simp only [Function.comp_def, difference]

/-! ## The outcome (R154 to R158) -/

theorem heldOff_eq_true_iff (f : OpenFrame) (d : Detector) :
    heldOff f d = true ↔ ∃ l, d.lastCandidate = some l ∧ 0 < f.number - l ∧ f.number - l ≤ f.setup.holdoff := by
  unfold heldOff
  split
  · next l h => simp [h]
  · next h => simp [h]

theorem speedJudged_eq_false_iff (f : OpenFrame) :
    speedJudged f = false ↔ ¬ (f.speed ≠ 0 ∧ f.setup.speedLo ≤ f.speed ∧ f.speed ≤ f.setup.speedHi) := by
  simp [speedJudged, ← Bool.not_eq_true, and_assoc]

theorem heldFromJudging_eq_true_iff (f : OpenFrame) :
    heldFromJudging f = true ↔ ∃ e, f.lookup.inEntry = some e ∧ e.fields.holdScd = true := by
  unfold heldFromJudging
  split
  · next e h => simp [h]
  · next h => simp [h]

/-- The outcome that a judgement gives (R164). -/
def outcomeOf (f : OpenFrame) (means : Vector Nat 384) (d : Detector) : NotJudged ⊕ Reference → DetectorOutcome
  | .inl reason => .notJudged reason
  | .inr r =>
      .judged (changedCells f.setup.cellThreshold means r.means)
        (cutResult f (changedCells f.setup.cellThreshold means r.means) d)

@[simp] theorem outcomeOf_inl (f : OpenFrame) (means : Vector Nat 384) (d : Detector) (reason : NotJudged) :
    outcomeOf f means d (.inl reason) = .notJudged reason := rfl

theorem judgeFrame_snd (f : OpenFrame) (complete : Bool) (s : State) :
    (judgeFrame f complete s).2 =
      outcomeOf f (cellMeans (s.detector.recip.getD 0) s.detector.sums) s.detector (judgement f complete s.detector) := by
  unfold judgeFrame
  dsimp only
  split
  · next h => rw [h]; rfl
  · next h => rw [h]; rfl

/-! ## The reference and the CUT record (R159 to R163) -/

theorem becomesReference_eq_true_iff (f : OpenFrame) (complete : Bool) (d : Detector) :
    becomesReference f complete d = true ↔
      complete = true ∧ f.substitution = .none ∧ d.recipValid = true ∧ f.direction = .forward := by
  simp [becomesReference, and_assoc]

/-- R163: the reference is all that a frame's taking changes. -/
theorem takeReference_eq (f : OpenFrame) (complete : Bool) (means : Vector Nat 384) (s : State) :
    takeReference f complete means s =
      { s with
        detector := { s.detector with
          reference :=
            if complete = true ∧ f.substitution = .none ∧ s.detector.recipValid = true ∧ f.direction = .forward
            then some { means := means, frame := f.number } else s.detector.reference } } := by
  simp only [takeReference, becomesReference_eq_true_iff]
  split <;> rfl

/-- R159 to R162: a CUT changes the two memories of the detector and the ring. -/
theorem reportCut_eq (f : OpenFrame) (changed : Nat) (s : State) :
    reportCut f changed s =
      { s with
        detector := { s.detector with
          lastCandidate := some f.number, recentCuts := appendCut f.number s.detector.recentCuts }
        ring := (stage (.cut (cutReportOf f changed s)) s).ring } := by
  rw [reportCut, stage_eq_withRing]
  exact congrArg (State.withRing _) (stage_ring (by rfl) _)

/-- R153: what the judgement leaves before the frame is taken as reference: a CUT is reported. -/
def cutReported (f : OpenFrame) (s : State) : DetectorOutcome → State
  | .judged n .cut => reportCut f n s
  | _ => s

theorem cutReported_of_ne_cut (f : OpenFrame) (s : State) (n : Nat) {r : CutResult} (h : r ≠ .cut) :
    cutReported f s (.judged n r) = s := by
  cases r with
  | cut => exact absurd rfl h
  | noCut | holdoff | repeated => rfl

theorem judgeFrame_fst (f : OpenFrame) (complete : Bool) (s : State) :
    (judgeFrame f complete s).1 =
      takeReference f complete (cellMeans (s.detector.recip.getD 0) s.detector.sums)
        (cutReported f s (judgeFrame f complete s).2) := by
  unfold judgeFrame
  dsimp only
  split
  · rfl
  · dsimp only
    split
    · next h => rw [h]; rfl
    · next h => rw [cutReported_of_ne_cut f s _ h]

/-- Settles O39: `judgeFrame_snd` with the conditions of R154 in turn, and `judgeFrame_fst` with the outcome's two kinds. -/
theorem closeJudgesTheFrame : Obligations.CloseJudgesTheFrame := by
  intro f complete s means changed judged o hmeans hchanged hjudged ho
  have mean : cellMeans (s.detector.recip.getD 0) s.detector.sums = means :=
    Vector.ext fun i hi => (getElem_cellMeans _ _ i hi).trans (hmeans ⟨i, hi⟩).symm
  have result (r : Reference) : outcomeOf f means s.detector (.inr r) = .judged (changed r) (judged r) := by
    have cells : changedCells f.setup.cellThreshold means r.means = changed r :=
      (changedCells_eq_length_filter _ _ _).trans (hchanged r).symm
    simp only [outcomeOf, cells, hjudged, cutResult, heldOff_eq_true_iff]
  have outcome : (judgeFrame f complete s).2 = o := by
    rw [judgeFrame_snd, mean, ho]
    simp only [judgement, speedJudged_eq_false_iff, heldFromJudging_eq_true_iff, ne_eq, ← Decidable.not_and_iff_or_not,
      apply_ite (outcomeOf f means s.detector)]
    cases s.detector.reference with
    | none => simp only [outcomeOf_inl]
    | some r => simp only [apply_ite (outcomeOf f means s.detector), outcomeOf_inl, result]
  refine ⟨outcome, ?_⟩
  rw [judgeFrame_fst, outcome, mean, takeReference_eq]
  cases o with
  | notJudged reason => rfl
  | judged n r =>
    cases r with
    | cut => simp only [cutReported, reportCut_eq]; rfl
    | noCut | holdoff | repeated => rfl

end Sys2Proof.Machine
end

section
/-! The commands of the Profile Store (R177, R178, R182), and the completions of a programming operation (R179,
R183). -/

namespace Sys2Proof.Machine

/-! ## The two commands (R177, R178, R182) -/

/-- R9: a captured command word issues its command outside UNSET. -/
theorem arriveCommandWord_taken {s : State} (hp : PortOpen s) (hu : SetupTaken s) (m : Master) (code : BitVec 3)
    (args : CommandArgs) :
    arriveSetupWord m 1 (commandWord code args) s =
      issueCommand (commandWord code args) (capturedAt 1 (commandWord code args) s) :=
  arriveSetupWord_taken hp hu m (by decide) (by decide) _

/-- The profile that a command word names (R9). -/
theorem profileOf_commandWord {n : Fin 32} {args : CommandArgs} (hn : n.val = args.profile.toNat) (code : BitVec 3) :
    Fin.ofNat 32 (bits (commandWord code args) 24 5) = n := by
  rw [profile_commandWord, ← hn]
  exact Fin.ofNat_val_eq_self n

theorem issueCommand_program {n : Fin 32} {args : CommandArgs} (hn : n.val = args.profile.toNat) (s : State) :
    issueCommand (commandWord 3 args) s = programProfile n s := by
  unfold issueCommand
  rw [commandCodeOf_commandWord, profileOf_commandWord hn]
  rfl

theorem issueCommand_read {n : Fin 32} {args : CommandArgs} (hn : n.val = args.profile.toNat) (s : State) :
    issueCommand (commandWord 4 args) s = readProfile n s := by
  unfold issueCommand
  rw [commandCodeOf_commandWord, profileOf_commandWord hn]
  rfl

/-- R182: the PFS answers at the command's capture. -/
theorem exec_readProfile_taken {s : State} (hp : PortOpen s) (hu : SetupTaken s) (m : Master) {n : Fin 32}
    {args : CommandArgs} (hn : n.val = args.profile.toNat) :
    exec (.readProfile m args) s = .next (readProfile n (capturedAt 1 (commandWord 4 args) s)) :=
  congrArg Host.Outcome.next ((arriveCommandWord_taken hp hu m 4 args).trans (issueCommand_read hn _))

/-- R177: the conditions are tested at the command's capture. -/
theorem exec_programProfile_taken {s : State} (hp : PortOpen s) (hu : SetupTaken s) (m : Master) {n : Fin 32}
    {args : CommandArgs} (hn : n.val = args.profile.toNat) :
    exec (.programProfile m args) s = .next (programProfile n (capturedAt 1 (commandWord 3 args) s)) :=
  congrArg Host.Outcome.next ((arriveCommandWord_taken hp hu m 3 args).trans (issueCommand_program hn _))

/-! ## READ PROFILE (R182) -/

theorem readProfile_idle {s : State} (h : s.profiles.operation = none) (n : Fin 32) :
    readProfile n s = stage (.profileRead n s.profiles.profiles[n.val]) s :=
  if_neg fun hb => (programmingBusy_iff _).1 hb h

theorem readProfile_busy {s : State} (h : s.profiles.operation ≠ none) (n : Fin 32) :
    readProfile n s = stage (.fault (.programRefused .busy .read n)) s :=
  if_pos ((programmingBusy_iff _).2 h)

/-- Settles O23: the capture of the command word leaves the Profile Store, so its busy state decides between
`readProfile_idle` and `readProfile_busy`. -/
theorem readProfileReportsOrIsRefused : Obligations.ReadProfileReportsOrIsRefused := by
  intro m args s n hp hu hn
  rw [exec_readProfile_taken hp hu m hn]
  have profiles : (capturedAt 1 (commandWord 4 args) s).profiles = s.profiles := rfl
  refine ⟨fun h => ?_, fun h => ?_⟩
  · rw [readProfile_idle (profiles ▸ h), profiles]
  · rw [readProfile_busy (profiles ▸ h)]

/-! ## PROGRAM PROFILE (R177, R178) -/

/-- R177: the four conditions, each with the ones before it not holding. -/
theorem programRefusal_eq_some {s : State} {reason : ProgramRefusal}
    (h : reason = .notEnabled ∧ s.setup.programEnable = false
      ∨ reason = .frameOpen ∧ s.setup.programEnable = true ∧ s.tracker.openFrame ≠ none
      ∨ reason = .running ∧ s.setup.programEnable = true ∧ s.tracker.openFrame = none
          ∧ s.footage.transport = .running
      ∨ reason = .busy ∧ s.setup.programEnable = true ∧ s.tracker.openFrame = none
          ∧ s.footage.transport = .stopped ∧ s.profiles.operation ≠ none) :
    programRefusal s = some reason := by
  unfold programRefusal
  rcases h with ⟨rfl, he⟩ | ⟨rfl, he, hf⟩ | ⟨rfl, he, hf, ht⟩ | ⟨rfl, he, hf, ht, ho⟩
  · simp [he]
  · simp [he, Option.isSome_iff_ne_none.2 hf]
  · simp [he, hf, ht]
  · simp [he, hf, ht, (programmingBusy_iff _).2 ho]

theorem programRefusal_eq_none {s : State} (he : s.setup.programEnable = true) (hf : s.tracker.openFrame = none)
    (ht : s.footage.transport = .stopped) (ho : s.profiles.operation = none) : programRefusal s = none := by
  simp [programRefusal, programmingBusy, he, hf, ht, ho]

theorem programProfile_refused {s : State} {reason : ProgramRefusal} (h : programRefusal s = some reason) (n : Fin 32) :
    programProfile n s = stage (.fault (.programRefused reason .program n)) s := by
  rw [programProfile, h]
  rfl

theorem programProfile_accepted {s : State} (h : programRefusal s = none) (n : Fin 32) :
    programProfile n s = acceptProgram n s := by
  rw [programProfile, h]

/-- R178, step 4: the number alone can change. -/
theorem HeldProfile.unnumber_eq (k : HeldProfile) (n : Fin 32) :
    k.unnumber n = { k with number := if k.number = some n then none else k.number } := by
  unfold HeldProfile.unnumber
  split <;> rfl

/-- R8, R9: in UNSET a command word reaches the shadow and no further. -/
theorem exec_programProfile_unset {s : State} (hp : PortOpen s) (hu : s.partState = .unset) (m : Master)
    (args : CommandArgs) : exec (.programProfile m args) s = .next (capturedAt 1 (commandWord 3 args) s) :=
  congrArg Host.Outcome.next
    ((arriveSetupWord_unset hp hu m (by decide) _).trans (if_neg fun h => absurd h.1 (by decide)))

/-- Settles O22: the capture leaves what R177 tests, and `programRefusal` answers the first condition that holds. -/
theorem programProfileStartsOrIsRefused : Obligations.ProgramProfileStartsOrIsRefused := by
  refine ⟨fun m args s hp hu => exec_programProfile_unset hp hu m args, ?_⟩
  rintro m args s n c hp hu hn rfl
  rw [exec_programProfile_taken hp hu m hn]
  refine ⟨fun reason h => ?_, fun he hf ht ho => ?_⟩
  · have refusal : programRefusal (capturedAt 1 (commandWord 3 args) s) = some reason := programRefusal_eq_some h
    rw [programProfile_refused refusal]
  · have accepted : programRefusal (capturedAt 1 (commandWord 3 args) s) = none := programRefusal_eq_none he hf ht ho
    rw [programProfile_accepted accepted]
    simp only [acceptProgram, HeldProfile.unnumber_eq]
    rfl

/-! ## Cells (R171, R179) -/

theorem mixBits_allOnes {n : Nat} (new old : BitVec n) : mixBits (BitVec.allOnes n) new old = new := by
  simp [mixBits]

theorem mixBits_zero {n : Nat} (new old : BitVec n) : mixBits 0#n new old = old := by
  simp [mixBits]

/-- R179: a write that every cell takes leaves the operation's values. -/
theorem mixCells_all (new old : ProfileValues) : mixCells (.ofCells (BitVec.allOnes 67)) new old = new := by
  have cells : ProfileValues.ofCells (BitVec.allOnes 67) =
      { invert := true
        base := ⟨BitVec.allOnes 10, BitVec.allOnes 10, BitVec.allOnes 10⟩
        scale := ⟨BitVec.allOnes 12, BitVec.allOnes 12, BitVec.allOnes 12⟩ } := by decide
  simp only [cells, mixCells, mixBits_allOnes, if_true]

/-- R179: a write that no cell takes leaves what stood in the cells. -/
theorem mixCells_none (new old : ProfileValues) : mixCells (.ofCells 0) new old = old := by
  have cells : ProfileValues.ofCells 0 =
      { invert := false, base := ⟨0#10, 0#10, 0#10⟩, scale := ⟨0#12, 0#12, 0#12⟩ } := by decide
  simp only [cells, mixCells, mixBits_zero, Bool.false_eq_true, if_false]

/-- R179: cell `lo + i` decides bit `i` of the value whose lowest cell is `lo`. -/
theorem getLsbD_mixBits_cells (took : BitVec 67) (lo : Nat) {len i : Nat} (h : i < len) (new old : BitVec len) :
    (mixBits (took.extractLsb' lo len) new old).getLsbD i =
      if took.getLsbD (lo + i) then new.getLsbD i else old.getLsbD i := by
  rw [getLsbD_mixBits _ _ _ _ h, BitVec.getLsbD_extractLsb']
  simp [h]

/-! ## The operation (R179, R183) -/

/-- R179: the cells that took their value hold it, and a verify follows. -/
theorem exec_cellWriteComplete_writing {s : State} {op : Programming} (h : s.profiles.operation = some op)
    (hw : op.phase = .writing) (took : BitVec 67) :
    exec (.cellWriteComplete took) s = .next
      { s with
        profiles :=
          { profiles := s.profiles.profiles.set op.number.val
              { s.profiles.profiles[op.number.val] with
                values := mixCells (.ofCells took) op.values s.profiles.profiles[op.number.val].values }
            operation := some { op with phase := .verifying } } } := by
  change Host.Outcome.next (completeCellWrite took s) = _
  simp only [completeCellWrite, h, hw]
  rfl

/-- Assumption 9: no verify is under way while cells are written. -/
theorem exec_profileVerify_writing {s : State} {op : Programming} (h : s.profiles.operation = some op)
    (hw : op.phase = .writing) : exec .profileVerify s = .next s := by
  change Host.Outcome.next (completeVerify s) = _
  simp only [completeVerify, h, hw]

/-- R179, R183: a verify that passes ends the operation, and one that fails has the values written again. -/
theorem exec_profileVerify_verifying {s : State} {op : Programming} (h : s.profiles.operation = some op)
    (hv : op.phase = .verifying) :
    exec .profileVerify s = .next
      (if s.profiles.profiles[op.number.val].values = op.values then
        endOperation op.number { s.profiles.profiles[op.number.val] with mark := .complete } .verified s
      else { s with profiles := { s.profiles with operation := some { op with phase := .writing } } }) := by
  change Host.Outcome.next (completeVerify s) = _
  simp only [completeVerify, h, hv]
  rfl

/-- Settles O45: the values of the profile after a write are `mixCells`, cell by cell `getLsbD_mixBits_cells`, and
`exec_profileVerify_verifying` has the two results of a verify. -/
theorem programmingWritesAndVerifies : Obligations.ProgrammingWritesAndVerifies := by
  intro s op hop
  refine ⟨fun hw => ⟨fun took => ?_, exec_profileVerify_writing hop hw⟩, fun hv => ?_⟩
  · have cell (lo : Nat) {len : Nat} (new old : BitVec len) (i : Nat) (hi : i < len) :=
      getLsbD_mixBits_cells took lo hi new old
    refine ⟨mixCells (.ofCells took) op.values s.profiles.profiles[op.number.val].values,
      exec_cellWriteComplete_writing hop hw took, rfl, cell 56 _ _, cell 46 _ _, cell 36 _ _, cell 24 _ _, cell 12 _ _,
      fun i hi => (cell 0 _ _ i hi).trans (by rw [Nat.zero_add]), ?_, ?_⟩
    · rintro rfl
      exact mixCells_all _ _
    · rintro rfl
      exact mixCells_none _ _
  · rw [exec_profileVerify_verifying hop hv]
    refine ⟨fun agree => ?_, fun differ => ?_⟩
    · rw [if_pos agree, ← agree]
      rfl
    · rw [if_neg differ]

end Sys2Proof.Machine
end

section
/-! Ring pointers (R185): positions, distances, and how far an advance carries. -/

namespace Sys2Proof.Machine

/-! ## Positions and distances -/

theorem RingPointer.position_lt {p : RingPointer} {size : Nat} (h : p.offset < size) : p.position size < 2 * size := by
  unfold position
  split <;> omega

/-- The distance counts up from `a` to `b`, round the two laps of the linear positions where `b` stands before `a`. -/
theorem ringDistance_eq {size : Nat} {a b : RingPointer} (ha : a.offset < size) (hb : b.offset < size) :
    ringDistance size a b =
      if a.position size ≤ b.position size then b.position size - a.position size
      else b.position size + 2 * size - a.position size := by
  have la := RingPointer.position_lt ha
  have lb := RingPointer.position_lt hb
  unfold ringDistance
  split
  · rw [Nat.mod_eq_sub_mod (by omega), Nat.mod_eq_of_lt (by omega)]
    omega
  · exact Nat.mod_eq_of_lt (by omega)

theorem ringDistance_self (size : Nat) (p : RingPointer) (h : p.offset < size) : ringDistance size p p = 0 := by
  simp [ringDistance_eq h h]

theorem ringDistance_same_lap {size : Nat} {a b : RingPointer} (ha : a.offset < size) (hb : b.offset < size)
    (lap : b.wrap = a.wrap) (order : a.offset ≤ b.offset) : ringDistance size a b = b.offset - a.offset := by
  rw [ringDistance_eq ha hb]
  unfold RingPointer.position
  rw [lap]
  split_ifs <;> omega

theorem ringDistance_other_lap {size : Nat} {a b : RingPointer} (ha : a.offset < size) (hb : b.offset < size)
    (lap : b.wrap ≠ a.wrap) : ringDistance size a b = size - a.offset + b.offset := by
  rw [ringDistance_eq ha hb]
  unfold RingPointer.position
  cases hw : a.wrap <;> cases hv : b.wrap <;> simp_all <;> split <;> omega

/-- A pointer on the way from `a` to `c` leaves the rest of the way before it. -/
theorem ringDistance_sub {size : Nat} {a b c : RingPointer} (ha : a.offset < size) (hb : b.offset < size)
    (hc : c.offset < size) (h : ringDistance size a b ≤ ringDistance size a c) :
    ringDistance size b c = ringDistance size a c - ringDistance size a b := by
  have la := RingPointer.position_lt ha
  have lb := RingPointer.position_lt hb
  have lc := RingPointer.position_lt hc
  rw [ringDistance_eq ha hb, ringDistance_eq ha hc] at h ⊢
  rw [ringDistance_eq hb hc]
  split_ifs at h ⊢ <;> omega

/-! ## Advancing -/

theorem RingPointer.offset_advance_lt {p : RingPointer} {size k : Nat} (h : p.offset < size) (hk : k ≤ size) :
    (p.advance size k).offset < size := by
  unfold advance
  split
  · assumption
  · simp only
    omega

/-- The position advances by `k`, round the two laps. -/
theorem RingPointer.position_advance {p : RingPointer} {size k : Nat} (h : p.offset < size) (hk : k ≤ size) :
    (p.advance size k).position size =
      if p.position size + k < 2 * size then p.position size + k else p.position size + k - 2 * size := by
  by_cases lap : p.offset + k < size
  · rw [advance, if_pos lap]
    unfold position
    dsimp only
    split_ifs <;> omega
  · rw [advance, if_neg lap]
    unfold position
    cases p.wrap <;> simp only [Bool.not_true, Bool.not_false, Bool.false_eq_true, if_true, if_false] <;> split <;> omega

/-- Advancing the head by words that are free adds them to the used words. -/
theorem ringDistance_advance {size k : Nat} {c h : RingPointer} (hc : c.offset < size) (hh : h.offset < size)
    (hk : ringDistance size c h + k ≤ size) :
    ringDistance size c (h.advance size k) = ringDistance size c h + k := by
  have lc := RingPointer.position_lt hc
  have lh := RingPointer.position_lt hh
  have fits : k ≤ size := by omega
  rw [ringDistance_eq hc hh] at hk ⊢
  rw [ringDistance_eq hc (RingPointer.offset_advance_lt hh fits), RingPointer.position_advance hh fits]
  split_ifs at hk ⊢ <;> omega

end Sys2Proof.Machine
end

section
/-! The report ring's commands: staging, selection and the consumer index (R186, R188, R191). -/

namespace Sys2Proof.Machine

/-! ## Staging (R186) -/

theorem queueHasRoom_iff (s : State) : queueHasRoom s = true ↔ s.ring.queue.length < 8 := decide_eq_true_iff

theorem stage_of_room {s : State} (h : s.ring.queue.length < 8) (r : Record) :
    stage r s = s.withRing { s.ring with queue := s.ring.queue ++ [r] } := if_pos ((queueHasRoom_iff s).2 h)

theorem stage_of_full {s : State} (h : ¬ s.ring.queue.length < 8) (r : Record) :
    stage r s = s.withRing { s.ring with lost := saturatingSucc 65535 s.ring.lost } :=
  if_neg fun room => h ((queueHasRoom_iff s).1 room)

/-- Settles O48, by the two cases of `stage`. -/
theorem stagingKeepsEightRecords : Obligations.StagingKeepsEightRecords := by
  intro r s
  by_cases h : s.ring.queue.length < 8
  · rw [stage_of_room h, if_pos h]
    rfl
  · rw [stage_of_full h, if_neg h]
    rfl

/-! ## Selecting a record (R188) -/

theorem reportInProgress_iff (p : MemoryPort) :
    reportInProgress p = true ↔ ∃ w cells d, p.inProgress = some (.report w cells d) := by
  unfold reportInProgress
  split <;> simp [*]

theorem mayLookAtOldest_iff (s : State) :
    mayLookAtOldest s = true ↔
      s.partState ≠ .unset ∧ s.ring.inFlight = false ∧ s.ring.publication = false ∧ s.port.reportRequest = none
        ∧ reportInProgress s.port = false := by
  simp [mayLookAtOldest, and_assoc]

/-- R188: a selection that is not allowed, or a record that does not fit, changes nothing. -/
theorem selectRecord_refused {s : State} (h : ¬ mayLookAtOldest s = true ∨
      ∀ r rest, s.ring.queue = r :: rest → freeWords s < r.length) : selectRecord s = s := by
  unfold selectRecord
  split
  · rfl
  · next r rest hq =>
    refine if_neg fun ⟨look, fits⟩ => ?_
    rcases h with h | h
    · exact h look
    · exact absurd fits (h r rest hq).not_ge

theorem selectRecord_fits {s : State} {r : Record} {rest : List Record} (hq : s.ring.queue = r :: rest)
    (look : mayLookAtOldest s = true) (fits : r.length ≤ freeWords s) :
    selectRecord s = requestReport (firstReportWrite s) (s.withRing { s.ring with inFlight := true }) := by
  unfold selectRecord
  rw [hq]
  exact if_pos ⟨look, fits⟩

/-- Settles O46: R188's conditions are `mayLookAtOldest`, and `firstReportWrite_eq` names the write. -/
theorem oldestRecordGoesInFlight : Obligations.OldestRecordGoesInFlight := by
  intro s
  refine ⟨fun r rest hq hu hf hp hr hi => ⟨fun fits => ?_, fun full => ?_⟩, fun h => ?_⟩
  · have quiet : reportInProgress s.port = false := by
      rw [← Bool.not_eq_true, reportInProgress_iff]
      rintro ⟨w, cells, d, h⟩
      exact hi w cells d h
    have look := (mayLookAtOldest_iff s).2 ⟨hu, hf, hp, hr, quiet⟩
    change Host.Outcome.next (selectRecord s) = _
    rw [selectRecord_fits hq look fits, firstReportWrite_eq hq]
    rfl
  · refine congrArg Host.Outcome.next (selectRecord_refused (.inr fun r' rest' hq' => ?_))
    obtain ⟨rfl, -⟩ := List.cons.inj (hq.symm.trans hq')
    exact full
  · refine congrArg Host.Outcome.next (selectRecord_refused ?_)
    rcases h with h | h
    · exact .inr fun r rest hq => by simp [h] at hq
    · rw [← reportInProgress_iff] at h
      refine .inl fun look => ?_
      obtain ⟨hu, hf, hp, hr, hi⟩ := (mayLookAtOldest_iff s).1 look
      simp_all

/-! ## The consumer index (R191) -/

theorem consumerAccepted_iff (p : RingPointer) (s : State) :
    consumerAccepted p s = true ↔
      p.offset < s.setup.ringSize ∧ ringDistance s.setup.ringSize s.ring.consumer p ≤ usedWords s := by
  simp [consumerAccepted]

/-- Settles O13: the word outside UNSET is `writeConsumer`, which accepts what `consumerAccepted_iff` says. -/
theorem consumerIndexAcceptedOrRefused : Obligations.ConsumerIndexAcceptedOrRefused := by
  refine ⟨fun m w s hp hu => ?_, fun m w s hp hu p hw => ?_⟩
  · change Host.Outcome.next (arriveSetupWord m 2 w s) = _
    rw [arriveSetupWord_unset hp hu m (by decide), captureInUnset, if_neg (fun h => by simp [setupWordAt_eq_control] at h)]
  · have taken : exec (.consumerIndexWrite m w) s = .next (writeConsumer w (capturedAt 2 w s)) :=
      exec_setupWrite_taken hp hu m (k := 2) (by decide) (by decide) w
    have pointer : pointerOf w = p := hw.symm
    have accepted := consumerAccepted_iff p (capturedAt 2 w s)
    rw [taken, writeConsumer, pointer]
    refine ⟨fun h => ?_, fun h => ?_⟩
    · rw [if_pos (accepted.2 h)]
      rfl
    · rw [if_neg (fun ha => h (accepted.1 ha))]
      rfl

end Sys2Proof.Machine
end

section
/-! What an operation leaves of the ring when, of all that the ring's invariants speak of, it stages records at most
(R186): the footage counter, frames, profiles, tables and the reload engine are such. -/

namespace Sys2Proof.Machine

/-! ## The relation between two states -/

/-- `QueueBounded`, of the ring alone. -/
def ReportRing.Bounded (r : ReportRing) : Prop := r.queue.length ≤ 8 ∧ r.lost ≤ 65535

theorem queueBounded_iff (s : State) : QueueBounded s ↔ s.ring.Bounded := Iff.rfl

/-- Ring `q` is ring `r` with records staged behind those that waited, another lost count and another publication mark,
at most. -/
structure ReportRing.Stages (r q : ReportRing) : Prop where
  head : q.head = r.head
  consumer : q.consumer = r.consumer
  inFlight : q.inFlight = r.inFlight
  attn : q.attn = r.attn
  queue : r.queue <+: q.queue
  bounded : r.Bounded → q.Bounded

theorem ReportRing.Stages.refl (r : ReportRing) : r.Stages r := ⟨rfl, rfl, rfl, rfl, List.prefix_rfl, id⟩

theorem ReportRing.Stages.trans {r q p : ReportRing} (a : r.Stages q) (b : q.Stages p) : r.Stages p :=
  ⟨b.head.trans a.head, b.consumer.trans a.consumer, b.inFlight.trans a.inFlight, b.attn.trans a.attn,
    a.queue.trans b.queue, b.bounded ∘ a.bounded⟩

/-- Ports `p` and `q` have one report write requested, and one in progress. -/
structure MemoryPort.SameReports (p q : MemoryPort) : Prop where
  request : q.reportRequest = p.reportRequest
  progress : ∀ w cells d, q.inProgress = some (.report w cells d) ↔ p.inProgress = some (.report w cells d)

theorem MemoryPort.SameReports.refl (p : MemoryPort) : p.SameReports p := ⟨rfl, fun _ _ _ => Iff.rfl⟩

theorem MemoryPort.SameReports.trans {p q r : MemoryPort} (a : p.SameReports q) (b : q.SameReports r) :
    p.SameReports r :=
  ⟨b.request.trans a.request, fun w cells d => (b.progress w cells d).trans (a.progress w cells d)⟩

theorem MemoryPort.SameReports.reportInProgress {p q : MemoryPort} (h : p.SameReports q) :
    reportInProgress q = true ↔ reportInProgress p = true := by
  simp only [reportInProgress_iff, h.progress]

/-- Of all that the ring's invariants speak of, `t` differs from `s` in staged records and the lost count at most. -/
structure State.OnlyStages (s t : State) : Prop where
  ring : s.ring.Stages t.ring
  port : s.port.SameReports t.port
  setup : t.setup.ringSize = s.setup.ringSize ∧ t.setup.attnEnable = s.setup.attnEnable

namespace State.OnlyStages

theorem trans {s t u : State} (a : s.OnlyStages t) (b : t.OnlyStages u) : s.OnlyStages u :=
  ⟨a.ring.trans b.ring, a.port.trans b.port, b.setup.1.trans a.setup.1, b.setup.2.trans a.setup.2⟩

theorem of_ring {s t : State} (ring : s.ring.Stages t.ring) (h : t.port = s.port ∧ t.setup = s.setup) :
    s.OnlyStages t := by
  obtain ⟨port, setup⟩ := h
  exact ⟨ring, port ▸ .refl _, by simp [setup]⟩

theorem of_port {s t : State} (port : s.port.SameReports t.port) (h : t.ring = s.ring ∧ t.setup = s.setup) :
    s.OnlyStages t := by
  obtain ⟨ring, setup⟩ := h
  exact ⟨ring ▸ .refl _, port, by simp [setup]⟩

theorem of_same {s t : State} (h : t.ring = s.ring ∧ t.port = s.port ∧ t.setup = s.setup) : s.OnlyStages t :=
  of_port (h.2.1 ▸ .refl _) ⟨h.1, h.2.2⟩

theorem refl (s : State) : s.OnlyStages s := of_same ⟨rfl, rfl, rfl⟩

end State.OnlyStages

/-! ## Records (R186, R187) -/

theorem stage_onlyStages (r : Record) (s : State) : s.OnlyStages (stage r s) := by
  refine .of_ring ?_ (by simp)
  by_cases room : s.ring.queue.length < 8
  · rw [stage_of_room room]
    refine ⟨rfl, rfl, rfl, rfl, List.prefix_append _ _, fun ⟨_, lost⟩ => ⟨?_, lost⟩⟩
    simpa using room
  · rw [stage_of_full room]
    exact ⟨rfl, rfl, rfl, rfl, List.prefix_rfl, fun ⟨queue, _⟩ => ⟨queue, Nat.min_le_right _ _⟩⟩

theorem stageFault_onlyStages (f : FaultReport) (s : State) : s.OnlyStages (stageFault f s) := stage_onlyStages _ s

/-- R187: a kept summary clears the lost count. -/
theorem clearReportedCounts_onlyStages (s : State) : s.OnlyStages (clearReportedCounts s) :=
  .of_ring ⟨rfl, rfl, rfl, rfl, List.prefix_rfl, fun ⟨queue, _⟩ => ⟨queue, Nat.zero_le _⟩⟩ (by simp)

/-! ## Frames (R92 to R100) -/

theorem discardReference_onlyStages (s : State) : s.OnlyStages (discardReference s) := .of_same (by simp)

theorem takeReference_onlyStages (f : OpenFrame) (complete : Bool) (means : Vector Nat 384) (s : State) :
    s.OnlyStages (takeReference f complete means s) := .of_same (by simp)

theorem reportCut_onlyStages (f : OpenFrame) (changed : Nat) (s : State) : s.OnlyStages (reportCut f changed s) := by
  refine .trans ?_ (stage_onlyStages _ _)
  exact .of_same (by simp)

theorem judgeFrame_onlyStages (f : OpenFrame) (complete : Bool) (s : State) :
    s.OnlyStages (judgeFrame f complete s).1 := by
  unfold judgeFrame
  dsimp only
  split
  · exact takeReference_onlyStages _ _ _ s
  · refine .trans ?_ (takeReference_onlyStages _ _ _ _)
    split
    · exact reportCut_onlyStages f _ s
    · exact .refl s

theorem stageSummary_onlyStages (f : OpenFrame) (o : DetectorOutcome) (s : State) :
    s.OnlyStages (stageSummary f o s) := by
  unfold stageSummary
  dsimp only
  split
  · split
    · exact (stage_onlyStages _ s).trans (clearReportedCounts_onlyStages _)
    · exact stage_onlyStages _ s
  · exact .refl s

theorem closeFrame_onlyStages (complete : Bool) (s : State) : s.OnlyStages (closeFrame complete s) := by
  unfold closeFrame
  split
  · next f _ =>
    unfold closeOpenFrame
    dsimp only
    generalize (if complete = true then f else { f with flags := { f.flags with truncated := true } }) = g
    have summarized := (judgeFrame_onlyStages g complete s).trans (stageSummary_onlyStages g (judgeFrame g complete s).2 _)
    exact summarized.trans (.of_same (by simp [endMixWait]))
  · exact .refl s

/-- R92, R95, R97, R100: a picture word can close the open frame, and does nothing else to the ring. -/
theorem pictureWord_onlyStages (b : Fin 4) (a o : Nat) (w : Word) (s : State) : s.OnlyStages (pictureWord b a o w s) := by
  unfold pictureWord
  split
  · exact (closeFrame_onlyStages false s).trans (.of_same (by simp [openFrame]))
  · split
    · refine .trans (.of_same (t := gradeInOpenFrame a o w s) (by simp)) ?_
      unfold closeAtLastOffset
      split
      · exact closeFrame_onlyStages true _
      · exact .refl _
    · exact .of_same (by simp)

/-! ## Footage Counter (R25, R34) -/

theorem expireIfDue_onlyStages (s : State) : s.OnlyStages (expireIfDue s) := by
  unfold expireIfDue
  split
  · refine .trans (.trans ?_ (stage_onlyStages _ _)) (discardReference_onlyStages _)
    exact .of_same (by simp)
  · exact .refl s

theorem requestSpeed_onlyStages (f g : Footage) (s : State) : s.OnlyStages (requestSpeed f g s) := .of_same (by simp)

theorem acceptEdge_onlyStages (d : Direction) (s : State) : s.OnlyStages (acceptEdge d s) := by
  have counted : s.OnlyStages (s.withFootage (footageAfterEdge d s.setup.ppf s.footage)) := .of_same (by simp)
  have recorded : s.OnlyStages
      (if (edgeCauses d s.setup.ppf s.footage).any then
        stageTransport (edgeCauses d s.setup.ppf s.footage) (s.withFootage (footageAfterEdge d s.setup.ppf s.footage))
      else s.withFootage (footageAfterEdge d s.setup.ppf s.footage)) := by
    split
    · exact counted.trans (stage_onlyStages _ _)
    · exact counted
  refine .trans ?_ (requestSpeed_onlyStages _ _ _)
  split
  · exact recorded.trans (discardReference_onlyStages _)
  · exact recorded

theorem perforationEdge_onlyStages (d : Direction) (s : State) : s.OnlyStages (perforationEdge d s) := by
  unfold perforationEdge
  split
  · exact .refl s
  · split
    · exact acceptEdge_onlyStages d s
    · exact .of_same (by simp)

/-! ## Profile Store (R177 to R183) -/

theorem programProfile_onlyStages (n : Fin 32) (s : State) : s.OnlyStages (programProfile n s) := by
  unfold programProfile
  split
  · exact stageFault_onlyStages _ s
  · exact .of_same (by simp)

theorem readProfile_onlyStages (n : Fin 32) (s : State) : s.OnlyStages (readProfile n s) := by
  unfold readProfile
  split
  · exact stageFault_onlyStages _ s
  · exact stage_onlyStages _ s

theorem endOperation_onlyStages (n : Fin 32) (v : Profile) (result : ProgramResult) (s : State) :
    s.OnlyStages (endOperation n v result s) :=
  .trans (.of_same (by simp)) (stage_onlyStages _ _)

theorem completeVerify_onlyStages (s : State) : s.OnlyStages (completeVerify s) := by
  unfold completeVerify
  dsimp only
  split
  · split
    · split
      · exact endOperation_onlyStages _ _ _ s
      · exact .of_same (by simp)
    · exact .refl s
  · exact .refl s

theorem timeOutIfDue_onlyStages (s : State) : s.OnlyStages (timeOutIfDue s) := by
  unfold timeOutIfDue
  dsimp only
  split
  · split
    · exact .trans (.of_same (by simp)) (endOperation_onlyStages _ _ _ _)
    · exact .refl s
  · exact .refl s

theorem tick_onlyStages (s : State) : s.OnlyStages (tick s) := by
  unfold tick
  split
  · exact .refl s
  · have cue : s.OnlyStages (endCueIfDue (expireIfDue s)) := (expireIfDue_onlyStages s).trans (.of_same (by simp))
    exact (cue.trans (timeOutIfDue_onlyStages _)).trans (.of_same (by simp [takeDueTimeouts]))

/-! ## Tables and the reload engine (R22, R24, R47) -/

theorem commitItem_onlyStages (byReload : Bool) (ref : ItemRef) (w : Word) (s : State) :
    s.OnlyStages (commitItem byReload ref w s) := by
  unfold commitItem
  cases ref with
  | slot i =>
    dsimp only [commitSlot]
    split
    · exact .of_same (by simp)
    · exact .trans (.of_same (by simp)) (stageFault_onlyStages _ _)
  | record i | curve i | window i => exact .of_same (by simp)

theorem captureTableWord_onlyStages (ref : ItemRef) (o : Nat) (w : Word) (s : State) :
    s.OnlyStages (captureTableWord ref o w s) := by
  unfold captureTableWord
  split
  · exact commitItem_onlyStages false ref w s
  · exact .of_same (by simp)

theorem installPart_onlyStages (ref : ItemRef) (part : ItemPart) (s : State) :
    s.OnlyStages (installPart ref part s) := by
  cases part with
  | rest => exact .of_same (by simp [installPart])
  | word0 => exact (commitItem_onlyStages true ref (reloadWord s ref 0) s).trans (.of_same (by simp [installPart]))

theorem requestPart_onlyStages (fuel : Nat) (ref : ItemRef) (part : ItemPart) (s : State) :
    s.OnlyStages (requestPart fuel ref part s) := by
  induction fuel generalizing ref part s with
  | zero => exact .refl s
  | succ fuel ih =>
    have installed := installPart_onlyStages ref part s
    unfold requestPart
    dsimp only
    split
    · exact .of_port ⟨rfl, fun _ _ _ => Iff.rfl⟩ (by simp)
    · split
      · exact installed.trans (ih _ _ _)
      · exact installed

theorem leaveLoading_onlyStages (s : State) : s.OnlyStages (leaveLoading s) := .of_same (by simp)

theorem resumeReload_onlyStages (s : State) : s.OnlyStages (resumeReload s) := by
  refine .trans ?_ (leaveLoading_onlyStages _)
  unfold requestFirstPending
  split
  · exact .refl s
  · split
    · exact requestPart_onlyStages _ _ _ s
    · exact .refl s

theorem discardInProgress_sameReports (cleared : List TableId) (p : MemoryPort) :
    p.SameReports (discardInProgress cleared p) := by
  unfold discardInProgress
  split
  · next h => exact ⟨rfl, fun _ _ _ => by simp [h]⟩
  all_goals exact .refl p

theorem restartReload_onlyStages (cleared : List TableId) (s : State) : s.OnlyStages (restartReload cleared s) := by
  unfold restartReload
  refine .trans ?_ (resumeReload_onlyStages _)
  exact .of_port ((discardInProgress_sameReports cleared s.port).trans ⟨rfl, fun _ _ _ => Iff.rfl⟩) ⟨rfl, rfl⟩

theorem abandonReload_onlyStages (s : State) : s.OnlyStages (abandonReload s) :=
  .of_port ((discardInProgress_sameReports allTables s.port).trans ⟨rfl, fun _ _ _ => Iff.rfl⟩) (by simp)

theorem retarget_onlyStages (t : TableId) (s : State) : s.OnlyStages (retarget t s) :=
  ((closeFrame_onlyStages false s).trans (.of_same (by simp))).trans (restartReload_onlyStages [t] _)

theorem reloadAll_onlyStages (s : State) : s.OnlyStages (reloadAll s) :=
  ((closeFrame_onlyStages false s).trans (.of_same (by simp))).trans (restartReload_onlyStages allTables _)

theorem completeTableRead_onlyStages (ref : ItemRef) (part : ItemPart) (discard : Bool) (s : State) :
    s.OnlyStages (completeTableRead ref part discard s) := by
  have installed := installPart_onlyStages ref part s
  unfold completeTableRead
  dsimp only
  split
  · exact resumeReload_onlyStages s
  · split
    · exact (installed.trans (requestPart_onlyStages _ _ _ _)).trans (leaveLoading_onlyStages _)
    · exact installed.trans (leaveLoading_onlyStages _)

/-! ## Setup (R11, R20, R31) -/

theorem restart_onlyStages (s : State) : s.OnlyStages (restart s) :=
  (closeFrame_onlyStages false s).trans (.of_same (by simp [restart]))

theorem enableChanged_onlyStages (s : State) : s.OnlyStages (enableChanged s) := by
  rw [enableChanged_eq]
  split
  · exact .of_same (by simp)
  · split
    · exact (closeFrame_onlyStages false s).trans (.of_same (by simp))
    · exact .refl s

theorem issueCommand_onlyStages (w : Word) (s : State) : s.OnlyStages (issueCommand w s) := by
  unfold issueCommand
  split
  · exact .refl s
  · exact .of_same (by simp)
  · exact reloadAll_onlyStages s
  · exact programProfile_onlyStages _ s
  · exact readProfile_onlyStages _ s
  · exact stageFault_onlyStages _ s

end Sys2Proof.Machine
end

section
/-! The queue, the ring pointers, the report writes and ATTN (R185 to R189, R192): what each operation leaves of the three
invariants, and that every step keeps them. -/

namespace Sys2Proof.Machine

/-! ## The parts of the invariant -/

/-- The part of `RingSound` that speaks of the ring alone: the pointers lie in a ring of `size` words, and the record in
flight fits into its free words. -/
structure ReportRing.Fits (r : ReportRing) (size : Nat) : Prop where
  head : r.head.offset < size
  consumer : r.consumer.offset < size
  used : ringDistance size r.consumer r.head ≤ size
  record : r.inFlight = true → ∃ x rest, r.queue = x :: rest ∧ x.length ≤ size - ringDistance size r.consumer r.head

/-- The part of `RingSound` that speaks of the memory port: a record's write asks for a record in flight, and no report
write is requested while one is under way. -/
structure MemoryPort.WritesFor (p : MemoryPort) (inFlight : Bool) : Prop where
  request : ∀ w, p.reportRequest = some w → w ≠ .publication → inFlight = true
  progress : ∀ w cells, p.inProgress = some (.report w cells false) → w ≠ .publication → inFlight = true
  single : reportInProgress p = true → p.reportRequest = none

theorem ringSound_iff (s : State) :
    RingSound s ↔ s.ring.Fits s.setup.ringSize ∧ s.port.WritesFor s.ring.inFlight :=
  ⟨fun ⟨head, consumer, used, record, request, progress, single⟩ =>
      ⟨⟨head, consumer, used, record⟩, ⟨request, progress, single⟩⟩,
    fun ⟨⟨head, consumer, used, record⟩, ⟨request, progress, single⟩⟩ =>
      ⟨head, consumer, used, record, request, progress, single⟩⟩

theorem ReportRing.Fits.stages {r q : ReportRing} {size : Nat} (h : r.Fits size) (staged : r.Stages q) : q.Fits size := by
  obtain ⟨head, consumer, used, record⟩ := h
  rw [← staged.head] at head used record
  rw [← staged.consumer] at consumer used record
  refine ⟨head, consumer, used, fun flies => ?_⟩
  obtain ⟨x, rest, hq, fits⟩ := record (staged.inFlight ▸ flies)
  obtain ⟨more, queue⟩ := staged.queue
  exact ⟨x, rest ++ more, by rw [← queue, hq, List.cons_append], fits⟩

theorem ReportRing.Fits.landed {r : ReportRing} {size : Nat} (h : r.Fits size) : Fits { r with inFlight := false } size :=
  ⟨h.head, h.consumer, h.used, fun flies => (nomatch flies)⟩

/-- R193: both pointers at offset 0 leave a ring of any size empty. -/
theorem ReportRing.Fits.atStart {r : ReportRing} {size : Nat} (hs : 0 < size) (head : r.head = ⟨0, false⟩)
    (consumer : r.consumer = ⟨0, false⟩) (landed : r.inFlight = false) : r.Fits size :=
  ⟨by rwa [head], by rwa [consumer], by simp [head, consumer, ringDistance_self size ⟨0, false⟩ hs], by simp [landed]⟩

/-- R191: a consumer index up to the head sets words free and takes none. -/
theorem ReportRing.Fits.accept {r : ReportRing} {size : Nat} (h : r.Fits size) {p : RingPointer} (hp : p.offset < size)
    (near : ringDistance size r.consumer p ≤ ringDistance size r.consumer r.head) (attn : Bool) :
    Fits { r with consumer := p, attn := attn } size := by
  have rest := ringDistance_sub h.consumer hp h.head near
  refine ⟨h.head, hp, ?_, fun flies => ?_⟩
  · simp only [rest]
    exact (Nat.sub_le _ _).trans h.used
  · obtain ⟨x, more, hq, fits⟩ := h.record flies
    refine ⟨x, more, hq, fits.trans ?_⟩
    simp only [rest]
    omega

/-- R189: the head advances by the record that was in flight, over words that were free. -/
theorem ReportRing.Fits.advance {r : ReportRing} {size : Nat} (h : r.Fits size) {x : Record} {rest : List Record}
    (flies : r.inFlight = true) (hq : r.queue = x :: rest) (attn : Bool) :
    Fits { r with head := r.head.advance size x.length, queue := rest, inFlight := false, attn := attn } size := by
  obtain ⟨y, more, hq', fits⟩ := h.record flies
  obtain ⟨rfl, -⟩ := List.cons.inj (hq.symm.trans hq')
  have used := h.used
  have room : ringDistance size r.consumer r.head + x.length ≤ size := by omega
  refine ⟨RingPointer.offset_advance_lt h.head (by omega), h.consumer, ?_, fun flies => (nomatch flies)⟩
  simp only [ringDistance_advance h.consumer h.head room]
  exact room

namespace MemoryPort.WritesFor

variable {p q : MemoryPort} {b : Bool}

theorem sameReports (h : p.WritesFor b) (same : p.SameReports q) : q.WritesFor b where
  request w hw := h.request w (same.request ▸ hw)
  progress w cells hp := h.progress w cells ((same.progress w cells false).1 hp)
  single hq := same.request ▸ h.single (same.reportInProgress.1 hq)

/-- With no report write under way, what is requested decides. -/
theorem of_quiet (quiet : reportInProgress p = false)
    (request : ∀ w, p.reportRequest = some w → w ≠ .publication → b = true) : p.WritesFor b := by
  refine ⟨request, fun w cells hp => ?_, fun hp => ?_⟩
  · simp [reportInProgress, hp] at quiet
  · simp [quiet] at hp

/-- With nothing requested and every record's write withdrawn, no record need be in flight (R193, R194). -/
theorem of_withdrawn (request : ∀ w, p.reportRequest = some w → w = .publication)
    (progress : ∀ w cells, p.inProgress = some (.report w cells false) → w = .publication)
    (single : reportInProgress p = true → p.reportRequest = none) : p.WritesFor b :=
  ⟨fun w hw hn => absurd (request w hw) hn, fun w cells hp hn => absurd (progress w cells hp) hn, single⟩

end MemoryPort.WritesFor

/-! ## The relation between two states -/

/-- Each of the three invariants that holds in `s` holds in `t`. -/
structure State.KeepsRing (s t : State) : Prop where
  queue : QueueBounded s → QueueBounded t
  sound : RingSound s → RingSound t
  attn : AttnFollowsPointers s → AttnFollowsPointers t

namespace State.KeepsRing

variable {s t u : State}

theorem refl (s : State) : s.KeepsRing s := ⟨id, id, id⟩

theorem trans (a : s.KeepsRing t) (b : t.KeepsRing u) : s.KeepsRing u :=
  ⟨b.queue ∘ a.queue, b.sound ∘ a.sound, b.attn ∘ a.attn⟩

theorem of_stages (h : s.OnlyStages t) : s.KeepsRing t := by
  obtain ⟨ring, port, size, enable⟩ := h
  refine ⟨ring.bounded, fun hs => ?_, fun hs => ?_⟩
  · obtain ⟨fits, writes⟩ := (ringSound_iff s).1 hs
    refine (ringSound_iff t).2 ⟨?_, ?_⟩
    · rw [size]
      exact fits.stages ring
    · rw [ring.inFlight]
      exact writes.sameReports port
  · unfold AttnFollowsPointers at hs ⊢
    rw [ring.attn, ring.head, ring.consumer, enable, hs]

theorem then_stages (a : s.KeepsRing t) (b : t.OnlyStages u) : s.KeepsRing u := a.trans (of_stages b)

theorem of_same (h : t.ring = s.ring ∧ t.port = s.port ∧ t.setup = s.setup) : s.KeepsRing t := of_stages (.of_same h)

end State.KeepsRing

/-! ## ATTN and the consumer index (R191, R192) -/

theorem reconsiderAttn_ring (s : State) :
    (reconsiderAttn s).ring =
      { s.ring with attn := s.setup.attnEnable && decide (s.ring.head ≠ s.ring.consumer) } := rfl

theorem reconsiderAttn_attn (s : State) : AttnFollowsPointers (reconsiderAttn s) := rfl

theorem writeConsumer_keepsRing (w : Word) (s : State) : s.KeepsRing (writeConsumer w s) := by
  unfold writeConsumer
  split
  · next accepted =>
    obtain ⟨offset, near⟩ := (consumerAccepted_iff _ s).1 accepted
    refine ⟨id, fun hs => ?_, fun _ => reconsiderAttn_attn _⟩
    obtain ⟨fits, writes⟩ := (ringSound_iff s).1 hs
    exact (ringSound_iff _).2 ⟨fits.accept offset near _, writes⟩
  · exact .of_stages (stageFault_onlyStages _ s)

/-! ## Ring reset and UNSET (R193, R194) -/

theorem withdrawReport_reportInProgress (every : Bool) (p : MemoryPort) :
    reportInProgress (withdrawReport every p) = reportInProgress p := by
  unfold withdrawReport
  split
  · next h => split <;> simp [reportInProgress, h]
  all_goals rfl

/-- After a withdrawal the report write under way, if it still counts, is a publication's. -/
theorem withdrawReport_progress {every : Bool} {p : MemoryPort} {w : ReportWrite} {cells : List (Nat × Word)}
    (h : (withdrawReport every p).inProgress = some (.report w cells false)) : w = .publication := by
  unfold withdrawReport at h
  split at h
  · next hp =>
    split at h
    · simp at h
    · next keeps =>
      obtain ⟨rfl, -⟩ := OwnAccess.report.inj (Option.some.inj (hp.symm.trans h))
      exact (show every = false ∧ _ from by simpa using keeps).2
  · next hp => simp [hp] at h
  · next hp => simp [hp] at h

/-- R193: a ring reset makes the ring sound whatever it was, in a ring of some words; the queue is what it was. -/
theorem resetRing_keepsRing {s t : State} (bounded : s.ring.Bounded → t.ring.Bounded)
    (size : 0 < s.setup.ringSize → 0 < t.setup.ringSize) : s.KeepsRing (resetRing t) := by
  refine ⟨bounded, fun hs => ?_, fun _ => ?_⟩
  · have pos := size (Nat.zero_lt_of_lt ((ringSound_iff s).1 hs).1.head)
    refine (ringSound_iff _).2 ⟨.atStart (by simpa using pos) rfl rfl rfl, .of_withdrawn ?_ ?_ ?_⟩
    · intro w hw
      simp only [resetRing, State.withRing_port, State.withPort_port] at hw
      split at hw
      · cases hw
      · exact (Option.some.inj hw).symm
    · exact fun w cells => withdrawReport_progress
    · intro hp
      have hp : reportInProgress t.port = true := (withdrawReport_reportInProgress true t.port) ▸ hp
      simp [resetRing, hp]
  · simp [AttnFollowsPointers, resetRing]

theorem suspendReports_keepsRing (s : State) : s.KeepsRing (suspendReports s) := by
  refine ⟨id, fun hs => ?_, id⟩
  obtain ⟨fits, -⟩ := (ringSound_iff s).1 hs
  exact (ringSound_iff _).2 ⟨fits.landed,
    .of_withdrawn (fun _ h => (nomatch h)) (fun _ _ => withdrawReport_progress) (fun _ => rfl)⟩

theorem enterUnset_keepsRing (s : State) : s.KeepsRing (enterUnset s) := by
  refine .trans (.of_stages ?_) (suspendReports_keepsRing _)
  exact ((closeFrame_onlyStages false s).trans (abandonReload_onlyStages _)).trans (.of_same (by simp))

/-! ## Records in flight (R188, R189) -/

theorem selectRecord_keepsRing (s : State) : s.KeepsRing (selectRecord s) := by
  by_cases h : mayLookAtOldest s = true ∧ ∃ r rest, s.ring.queue = r :: rest ∧ r.length ≤ freeWords s
  · obtain ⟨look, r, rest, hq, room⟩ := h
    obtain ⟨-, -, -, -, quiet⟩ := (mayLookAtOldest_iff s).1 look
    rw [selectRecord_fits hq look room]
    refine ⟨id, fun hs => ?_, id⟩
    obtain ⟨fits, -⟩ := (ringSound_iff s).1 hs
    exact (ringSound_iff _).2 ⟨⟨fits.head, fits.consumer, fits.used, fun _ => ⟨r, rest, hq, room⟩⟩,
      .of_quiet quiet fun _ _ _ => rfl⟩
  · rw [selectRecord_refused]
    · exact .refl s
    · rw [or_iff_not_imp_left, not_not]
      intro look r rest hq
      by_contra full
      exact h ⟨look, r, rest, hq, not_lt.1 full⟩

/-- R6: an issue moves the requested write to the port. -/
theorem issueOwnAccess_keepsRing (s : State) : s.KeepsRing (issueOwnAccess s) := by
  unfold issueOwnAccess
  split
  · exact .refl s
  · next free =>
    have idle : s.port.inProgress = none := by simpa using (not_or.1 free).1
    split
    · exact .of_stages (.of_port ⟨rfl, fun w cells d => by simp [idle]⟩ (by simp))
    · next w _ hw =>
      refine ⟨id, fun hs => ?_, id⟩
      obtain ⟨fits, writes⟩ := (ringSound_iff s).1 hs
      refine (ringSound_iff _).2 ⟨fits, fun _ h => (nomatch h), fun w' cells h => ?_, fun _ => rfl⟩
      obtain ⟨rfl, -⟩ := OwnAccess.report.inj (Option.some.inj h)
      exact writes.request _ hw
    · exact .refl s

/-- R193: what follows a withdrawn report write, on a port that has come free. -/
theorem requestPublication_sound {s : State} (idle : s.port.inProgress = none)
    (unrequested : s.port.reportRequest = none) (fits : s.ring.Fits s.setup.ringSize) :
    RingSound (requestPublication s) := by
  have quiet : reportInProgress s.port = false := by simp [reportInProgress, idle]
  unfold requestPublication
  split
  · exact (ringSound_iff _).2 ⟨fits, .of_quiet quiet fun w hw hn => absurd (Option.some.inj hw).symm hn⟩
  · exact (ringSound_iff _).2 ⟨fits, .of_quiet quiet fun w hw => absurd (unrequested.symm.trans hw) (by simp)⟩

/-- R189: what follows a report write that counts, on a port that has come free. -/
theorem afterReportWrite_sound {w : ReportWrite} {s : State} (idle : s.port.inProgress = none)
    (unrequested : s.port.reportRequest = none) (flies : w ≠ .publication → s.ring.inFlight = true)
    (fits : s.ring.Fits s.setup.ringSize) : RingSound (afterReportWrite w s) := by
  have quiet : reportInProgress s.port = false := by simp [reportInProgress, idle]
  cases w with
  | recordWords | recordWrapped =>
    exact (ringSound_iff _).2 ⟨fits, .of_quiet quiet fun _ _ _ => flies (by decide)⟩
  | recordHead =>
    have flies := flies (by decide)
    obtain ⟨r, rest, hq, -⟩ := fits.record flies
    refine (ringSound_iff _).2 ⟨?_, .of_quiet quiet fun w hw => absurd (unrequested.symm.trans hw) (by simp)⟩
    change ReportRing.Fits
      { s.ring with head := headAfterOldest s, queue := s.ring.queue.tail, inFlight := false, attn := _ } _
    rw [headAfterOldest_cons hq, hq]
    exact fits.advance flies hq _
  | publication =>
    exact (ringSound_iff _).2
      ⟨⟨fits.head, fits.consumer, fits.used, fits.record⟩,
        .of_quiet quiet fun w hw => absurd (unrequested.symm.trans hw) (by simp)⟩

theorem afterReportWrite_bounded (w : ReportWrite) {s : State} (h : QueueBounded s) :
    QueueBounded (afterReportWrite w s) := by
  obtain ⟨queue, lost⟩ := h
  cases w with
  | recordHead =>
    refine ⟨?_, lost⟩
    change s.ring.queue.tail.length ≤ 8
    rw [List.length_tail]
    omega
  | recordWords | recordWrapped | publication => exact ⟨queue, lost⟩

theorem afterReportWrite_attn (w : ReportWrite) {s : State} (h : AttnFollowsPointers s) :
    AttnFollowsPointers (afterReportWrite w s) := by
  cases w with
  | recordHead => exact reconsiderAttn_attn _
  | recordWords | recordWrapped | publication => exact h

theorem reportWriteDone_keepsRing {w : ReportWrite} {cells : List (Nat × Word)} {withdrawn : Bool} {s : State}
    (hp : s.port.inProgress = some (.report w cells withdrawn)) :
    s.KeepsRing (reportWriteDone w cells withdrawn (freePort s)) := by
  have busy : reportInProgress s.port = true := (reportInProgress_iff _).2 ⟨_, _, _, hp⟩
  cases withdrawn with
  | false =>
    change s.KeepsRing (afterReportWrite w ((freePort s).withStore _))
    refine ⟨fun hs => afterReportWrite_bounded w hs, fun hs => ?_, fun hs => afterReportWrite_attn w hs⟩
    obtain ⟨fits, writes⟩ := (ringSound_iff s).1 hs
    exact afterReportWrite_sound rfl (writes.single busy) (writes.progress w cells hp) fits
  | true =>
    change s.KeepsRing (requestPublication ((freePort s).withStore _))
    refine ⟨fun hs => ?_, fun hs => ?_, fun hs => ?_⟩
    · simpa [queueBounded_iff] using hs
    · obtain ⟨fits, writes⟩ := (ringSound_iff s).1 hs
      exact requestPublication_sound rfl (writes.single busy) fits
    · simpa [AttnFollowsPointers] using hs

/-! ## Setup (R8, R13, R18) -/

/-- R199: the ring size comes from setup word 14 alone, and ATTN enable from word 0. -/
theorem takeFields_ringSize {k : SetupWord} (hk : k ≠ .ringSize) (w : Word) (u : Setup) :
    (takeFields k w u).ringSize = u.ringSize := by
  unfold takeFields
  cases k <;> dsimp only
  case ringSize => contradiction
  case legal => split <;> rfl

theorem takeFields_attnEnable {k : SetupWord} (hk : k ≠ .control) (w : Word) (u : Setup) :
    (takeFields k w u).attnEnable = u.attnEnable := by
  unfold takeFields
  cases k <;> dsimp only
  case control => contradiction
  case legal => split <;> rfl

/-- R14: the ring size is clamped. -/
theorem takeFields_ringSize_pos (k : SetupWord) (w : Word) (u : Setup) (h : 0 < u.ringSize) :
    0 < (takeFields k w u).ringSize := by
  by_cases hk : k = .ringSize
  · subst hk
    simp only [takeFields, clampNat]
    omega
  · rwa [takeFields_ringSize hk]

/-- R20, R192: a control word that changes ATTN enable has the line set afresh. -/
theorem takeControl_keepsRing (w : Word) (s : State) : s.KeepsRing (takeWord .control w s) := by
  have attn : s.KeepsRing
      (if (takeFields .control w s.setup).attnEnable ≠ s.setup.attnEnable then
        attnEnableChanged (s.withSetup (takeFields .control w s.setup))
      else s.withSetup (takeFields .control w s.setup)) := by
    have size := takeFields_ringSize (k := .control) (by decide) w s.setup
    split
    · refine ⟨id, fun hs => ?_, fun _ => reconsiderAttn_attn _⟩
      obtain ⟨fits, writes⟩ := (ringSound_iff s).1 hs
      exact (ringSound_iff _).2 ⟨⟨fits.head, fits.consumer, fits.used, fits.record⟩, writes⟩
    · next same => exact .of_stages ⟨.refl _, .refl _, size, not_not.1 same⟩
  unfold takeWord
  dsimp only
  split
  · exact attn.then_stages (enableChanged_onlyStages _)
  · exact attn

theorem takeWord_keepsRing (k : SetupWord) (w : Word) (s : State) : s.KeepsRing (takeWord k w s) := by
  by_cases hc : k = .control
  · exact hc ▸ takeControl_keepsRing w s
  by_cases hr : k = .ringSize
  · subst hr
    unfold takeWord
    dsimp only
    split
    · exact resetRing_keepsRing id (takeFields_ringSize_pos _ w _)
    · exact .refl s
  have taken : s.OnlyStages (s.withSetup (takeFields k w s.setup)) :=
    ⟨.refl _, .refl _, takeFields_ringSize hr w _, takeFields_attnEnable hc w _⟩
  unfold takeWord
  cases k <;> dsimp only
  case control | ringSize => contradiction
  case command => exact .of_stages (issueCommand_onlyStages w s)
  case consumer => exact writeConsumer_keepsRing w s
  case geometry | bufferBase => split; exacts [.of_stages (taken.trans (restart_onlyStages _)), .refl s]
  case tableBase => split; exacts [.of_stages (taken.trans (retarget_onlyStages _ _)), .refl s]
  case ringBase => split; exacts [resetRing_keepsRing id id, .refl s]
  case footage => split; exacts [.of_stages (taken.trans (.of_same (by simp))), .of_stages taken]
  case stopLimit => exact .of_stages (taken.trans (expireIfDue_onlyStages _))
  case legal => unfold takeLegalWord; split; exacts [.of_stages (stageFault_onlyStages _ s), .of_stages taken]
  case head | noField => exact .refl s
  all_goals exact .of_stages taken

theorem checkShadowLegal_onlyStages (s : State) : s.OnlyStages (checkShadowLegal s) := by
  unfold checkShadowLegal
  split
  · exact stageFault_onlyStages _ s
  · exact .refl s

/-- R18: the taking of all setup values is a ring reset, behind the records of the taking. -/
theorem takeSetup_keepsRing (s : State) : s.KeepsRing (takeSetup s) := by
  have staged : (valuesTaken s).OnlyStages (restart (valuesChecked s)) :=
    ((expireIfDue_onlyStages _).trans (checkShadowLegal_onlyStages _)).trans (restart_onlyStages _)
  have ring : (valuesTaken s).ring = s.ring := by simp
  have reset : s.KeepsRing (resetRing (restart (valuesChecked s))) :=
    resetRing_keepsRing (ring ▸ staged.ring.bounded) fun pos => by
      simpa using takeShadow_keeps (Q := fun u => 0 < u.ringSize) takeFields_ringSize_pos s.shadow pos
  rw [takeSetup_checked]
  exact (reset.trans (.of_same (by simp))).then_stages (resumeReload_onlyStages _)

theorem completeSetupRead_keepsRing (q : Fin 4) (s : State) : s.KeepsRing (completeSetupRead q s) := by
  have installed : s.KeepsRing (installSetupRead q s) := .of_same (by simp)
  unfold completeSetupRead
  dsimp only
  split
  · exact installed.then_stages (.of_port ⟨rfl, fun _ _ _ => Iff.rfl⟩ (by simp))
  · split
    · exact installed.trans (takeSetup_keepsRing _)
    · exact installed

/-! ## Every step -/

/-- The port comes free from a reload read: no report write was under way. -/
theorem freePort_onlyStages {s : State} {read : ReloadRead} {d : Bool} (h : s.port.inProgress = some (.reload read d)) :
    s.OnlyStages (freePort s) :=
  .of_port ⟨rfl, fun _ _ _ => by simp [freePort, h]⟩ (by simp)

/-- R21, R194: RST empties the queue and the ring, and ends every report write. -/
theorem resetBlocks_keepsRing (s t : State) : s.KeepsRing (resetBlocks t) :=
  ⟨fun _ => ⟨Nat.zero_le _, Nat.zero_le _⟩, fun _ => ringSound_reset, fun _ => rfl⟩

theorem step_keepsRing {s s' : State} (hs : step s = .next s') : s.KeepsRing s' := by
  refine step_keeps (P := s.KeepsRing) ?pending (forwardWord_keeps ?pass ?fault ?setup ?table ?picture) ?returned
    ?waiting ?reset ?release ?setupRead ?tableRead ?report ?issue ?edge ?stop ?cue ?division ?cells ?verify ?timeOut
    ?select ?tick (.refl s) hs
  case fault => exact fun f _ h => h.then_stages (stageFault_onlyStages f _)
  case setup =>
    exact captureSetup_keeps (fun _ _ h => h.trans (.of_same (by simp)))
      (fun _ _ _ h => h.trans (takeWord_keepsRing _ _ _)) (fun _ h => h.trans (takeSetup_keepsRing _))
      (fun _ h => h.trans (enterUnset_keepsRing _))
  case table => exact fun ref o w _ _ h => h.then_stages (captureTableWord_onlyStages ref o w _)
  case picture => exact fun b a o w _ _ _ h => h.then_stages (pictureWord_onlyStages b a o w _)
  case waiting => exact fun _ _ h => h.then_stages (.of_port ⟨rfl, fun _ _ _ => Iff.rfl⟩ (by simp))
  case reset => exact fun _ _ => resetBlocks_keepsRing _ _
  case release =>
    intro b t h
    unfold releaseReset
    split
    · exact h.then_stages (.of_port ⟨rfl, fun _ _ _ => Iff.rfl⟩ ⟨rfl, rfl⟩)
    · exact h
  case setupRead =>
    exact fun q _ _ hp h => (h.then_stages (freePort_onlyStages hp)).trans (completeSetupRead_keepsRing q _)
  case tableRead =>
    exact fun ref p d _ hp h =>
      (h.then_stages (freePort_onlyStages hp)).then_stages (completeTableRead_onlyStages ref p d _)
  case report => exact fun _ _ _ _ hp h => h.trans (reportWriteDone_keepsRing hp)
  case issue => exact fun _ h => h.trans (issueOwnAccess_keepsRing _)
  case edge => exact fun d _ h => h.then_stages (perforationEdge_onlyStages d _)
  case stop => exact fun _ h => h.then_stages (expireIfDue_onlyStages _)
  case verify => exact fun _ h => h.then_stages (completeVerify_onlyStages _)
  case timeOut => exact fun _ h => h.then_stages (timeOutIfDue_onlyStages _)
  case select => exact fun _ h => h.trans (selectRecord_keepsRing _)
  case tick => exact fun _ h => h.then_stages (tick_onlyStages _)
  all_goals intros
  all_goals exact State.KeepsRing.trans (by assumption) (.of_same (by simp))

/-- Settles O57: every operation of a step meets the one relation, and the range of the setup values is not needed, since a
ring that holds its head has some words. -/
theorem stepsKeepTheRing : Obligations.StepsKeepTheRing := by
  intro s s' hs
  obtain ⟨queue, sound, attn⟩ := step_keepsRing hs
  exact ⟨queue, fun _ => sound, attn⟩

end Sys2Proof.Machine
end

section
/-! The report ring's formats: where a record's words lie (R185, R189), what they hold (R201), and pointer words (R202). -/

namespace Sys2Proof.Machine

/-! ## Packed words (R198) -/

/-- A packed word is the sum of its fields, each cut to its bits and at its place. -/
theorem toNat_packWord (fields : List WordField) :
    (packWord fields).toNat = (fields.map fun f => 2 ^ f.lo * (f.value % 2 ^ f.len)).sum % 2 ^ 32 := by
  have fold : ∀ n, fields.foldl (fun acc f => acc + f.value % 2 ^ f.len * 2 ^ f.lo) n =
      n + (fields.map fun f => 2 ^ f.lo * (f.value % 2 ^ f.len)).sum := by
    induction fields with
    | nil => simp
    | cons f fs ih =>
      intro n
      rw [List.foldl_cons, ih, List.map_cons, List.sum_cons, Nat.mul_comm (2 ^ f.lo), Nat.add_assoc]
  rw [packWord, BitVec.toNat_ofNat, fold, Nat.zero_add]

theorem flagBit_eq (b : Bool) : flagBit b = b.toNat := by cases b <;> rfl

theorem signed24_lt (n : Int) : signed24 n < 2 ^ 24 := (BitVec.ofInt 24 n).isLt

theorem Record.length_eq (r : Record) :
    r.length =
      match r with
      | .frameSummary _ => 11
      | .cut _ => 4
      | .transport _ => 3
      | .profileProgrammed _ _ => 2
      | .profileRead _ _ => 5
      | .fault (.dupStart _ _) => 4
      | .fault (.startRange _) => 3
      | .fault (.partialSnoop _) => 3
      | .fault (.setupRange _) => 3
      | .fault (.consumerRange _ _) => 4
      | .fault (.programRefused _ _ _) => 4 := by
  cases r with
  | fault f => cases f <;> rfl
  | _ => rfl

/-- A header holds the kind and the length (R201). -/
theorem toNat_header {kind length : Nat} (hk : kind < 2 ^ 8) (hl : length < 2 ^ 5) :
    (packWord [⟨kind, 24, 8⟩, ⟨length, 0, 5⟩]).toNat = 2 ^ 24 * kind + length := by
  simp only [toNat_packWord, List.map_cons, List.map_nil, List.sum_cons, List.sum_nil]
  omega

/-! ## Pointer words (R202) -/

theorem RingPointer.toNat_toWord (p : RingPointer) :
    p.toWord.toNat = 2 ^ 31 * p.wrap.toNat + p.offset % 2 ^ 15 := by
  have := p.wrap.toNat_lt
  simp only [toWord, toNat_packWord, flagBit_eq, List.map_cons, List.map_nil, List.sum_cons, List.sum_nil]
  omega

theorem pointerOf_toWord {p : RingPointer} (h : p.offset < 32768) : pointerOf p.toWord = p := by
  have value := p.toNat_toWord
  have offset : bits p.toWord 0 15 = p.offset := by
    rw [bits, BitVec.extractLsb'_toNat, value]
    omega
  have wrap : bit p.toWord 31 = p.wrap := by
    rw [bit, BitVec.getLsbD, value, Nat.testBit_eq_decide_div_mod_eq]
    cases p.wrap <;> simp <;> omega
  rw [pointerOf, offset, wrap]

/-! ## Where the words of a record lie (R185, R189) -/

/-- Words written from a ring offset on, when the ring lies in the store. -/
theorem ringCells_eq_map {s : State} {o : Nat} {ws : List Word}
    (h : s.setup.ringBase + 4 * (o + ws.length) ≤ Config.storeBytes) :
    ringCells s o ws = ws.zipIdx.map fun w => (s.setup.ringBase + 4 * (o + w.2), w.1) := by
  refine List.filter_eq_self.2 fun c hc => ?_
  obtain ⟨x, hx, rfl⟩ := List.mem_map.1 hc
  have := List.snd_lt_of_mem_zipIdx hx
  simp only [inStore, decide_eq_true_eq]
  omega

/-- Past the top of the ring the offsets begin again at 0. -/
theorem reportCells_record {s : State} {r : Record} {rest : List Record} (hq : s.ring.queue = r :: rest)
    (head : s.ring.head.offset < s.setup.ringSize) (fits : r.length ≤ s.setup.ringSize)
    (within : s.setup.ringBase + 4 * s.setup.ringSize ≤ Config.storeBytes) :
    reportCells .recordWords s ++ reportCells .recordWrapped s =
      r.words.zipIdx.map fun w => (s.setup.ringBase + 4 * ((s.ring.head.offset + w.2) % s.setup.ringSize), w.1) := by
  rw [← Record.length_words] at fits
  have oldest : oldestWords s = r.words := by rw [oldestWords, hq]
  simp only [reportCells, oldest, wordsToTop]
  generalize hn : s.setup.ringSize - s.ring.head.offset = n
  rw [ringCells_eq_map (by rw [List.length_take]; omega), ringCells_eq_map (by rw [List.length_drop]; omega)]
  conv_rhs => rw [← List.take_append_drop n r.words, List.zipIdx_append, List.map_append]
  congr 1
  · refine List.map_congr_left fun x hx => ?_
    have := List.snd_lt_of_mem_zipIdx hx
    rw [List.length_take] at this
    rw [Nat.mod_eq_of_lt (by omega)]
  · rw [List.zipIdx_eq_map_add (i := 0 + (List.take n r.words).length), List.map_map]
    refine List.map_congr_left fun x hx => ?_
    have later := List.snd_lt_of_mem_zipIdx hx
    rw [List.length_drop] at later
    have wrapped : s.ring.head.offset + (0 + (List.take n r.words).length + x.2) = s.setup.ringSize + x.2 := by
      rw [List.length_take]
      omega
    dsimp only [Function.comp_apply]
    rw [wrapped, Nat.add_mod_left, Nat.mod_eq_of_lt (by omega), Nat.zero_add]

/-! ## What the words of a record hold (R201) -/

theorem toNat_field {v len : Nat} (h : len ≤ 32) : (packWord [⟨v, 0, len⟩]).toNat = v % 2 ^ len := by
  have := Nat.mod_lt v (Nat.two_pow_pos len)
  have := Nat.pow_le_pow_right (n := 2) (by decide) h
  simp only [toNat_packWord, List.map_cons, List.map_nil, List.sum_cons, List.sum_nil, Nat.pow_zero, Nat.one_mul]
  exact Nat.mod_eq_of_lt (by omega)

theorem Record.toNat_words (r : Record) :
    r.words.map BitVec.toNat = (2 ^ 24 * r.kind + r.length) :: r.body.map BitVec.toNat := by
  have kind : r.kind < 2 ^ 8 := by cases r <;> simp [Record.kind]
  have length : r.length < 2 ^ 5 := by rw [r.length_eq]; split <;> simp
  rw [words, List.map_cons, toNat_header kind length]

/-- The value of a slot number field with its present bit (R198). -/
def slotValue (s : Option (Fin 512)) (present lo : Nat) : Nat :=
  match s with
  | none => 0
  | some i => 2 ^ present + 2 ^ lo * i.val

theorem sum_slotField (s : Option (Fin 512)) (present lo : Nat) :
    ((slotField s present lo).map fun f => 2 ^ f.lo * (f.value % 2 ^ f.len)).sum = slotValue s present lo := by
  cases s with
  | none => rfl
  | some i => simp [slotField, slotValue, Nat.mod_eq_of_lt i.isLt]

theorem slotValue_le (s : Option (Fin 512)) (present lo : Nat) : slotValue s present lo ≤ 2 ^ present + 2 ^ lo * 511 := by
  cases s with
  | none => exact Nat.zero_le _
  | some i => exact Nat.add_le_add_left (Nat.mul_le_mul_left _ (Nat.le_of_lt_succ i.isLt)) _

theorem directionBit_le (d : Direction) : directionBit d ≤ 1 := by cases d <;> decide

theorem transportBit_le (t : TransportState) : transportBit t ≤ 1 := by cases t <;> decide

theorem FrameFlags.toBits_eq (f : FrameFlags) :
    f.toBits =
      f.truncated.toNat + 2 * f.mixLate.toNat + 4 * f.profileHeld.toNat + 8 * f.profileBad.toNat
        + 16 * f.gradeMissing.toNat + 32 * f.noEntry.toNat + 64 * f.substituted.toNat := by
  simp only [toBits, flagBit_eq]

theorem FrameFlags.toBits_lt (f : FrameFlags) : f.toBits < 128 := by
  have truncated := f.truncated.toNat_le
  have mixLate := f.mixLate.toNat_le
  have profileHeld := f.profileHeld.toNat_le
  have profileBad := f.profileBad.toNat_le
  have gradeMissing := f.gradeMissing.toNat_le
  have noEntry := f.noEntry.toNat_le
  have substituted := f.substituted.toNat_le
  rw [toBits_eq]
  omega

/-- The value of the detector outcome's fields in body word 8 of a summary. -/
def DetectorOutcome.value : DetectorOutcome → Nat
  | .judged changed result => 2 ^ 31 + 2 ^ 28 * result.code + 2 ^ 16 * (changed % 2 ^ 9)
  | .notJudged reason => 2 ^ 28 * reason.code

theorem toNat_outcomeWord (o : DetectorOutcome) (f : FrameFlags) :
    (packWord (o.fields ++ [⟨f.toBits, 0, 7⟩])).toNat = o.value + f.toBits := by
  have flags := f.toBits_lt
  cases o with
  | judged changed result =>
    have code : result.code < 4 := by cases result <;> decide
    simp only [toNat_packWord, DetectorOutcome.fields, DetectorOutcome.value, List.cons_append, List.nil_append,
      List.map_cons, List.map_nil, List.sum_cons, List.sum_nil]
    omega
  | notJudged reason =>
    have code : reason.code < 8 := by cases reason <;> decide
    simp only [toNat_packWord, DetectorOutcome.fields, DetectorOutcome.value, List.cons_append, List.nil_append,
      List.map_cons, List.map_nil, List.sum_cons, List.sum_nil]
    omega

theorem FrameSummary.toNat_body (r : FrameSummary) :
    r.body.map BitVec.toNat =
      [2 ^ 31 * directionBit r.direction + 2 ^ 30 * transportBit r.transport + 2 ^ 24 * r.buffer.val
          + signed24 r.number,
        slotValue r.inSlot 31 16 + slotValue r.outSlot 15 0,
        2 ^ 16 * (r.m % 2 ^ 9) + r.j % 2 ^ 8,
        r.wordsGraded % 2 ^ 24, r.orphans % 2 ^ 24, r.clipLow % 2 ^ 24, r.clipHigh % 2 ^ 24,
        r.outcome.value + r.flags.toBits,
        2 ^ 16 * (r.glitches % 2 ^ 16) + r.speed % 2 ^ 16,
        r.lost % 2 ^ 16] := by
  have direction := directionBit_le r.direction
  have transport := transportBit_le r.transport
  have number := signed24_lt r.number
  have incoming := slotValue_le r.inSlot 31 16
  have outgoing := slotValue_le r.outSlot 15 0
  simp only [body, List.map_cons, List.map_nil, toNat_outcomeWord, toNat_field (show 24 ≤ 32 by decide),
    toNat_field (show 16 ≤ 32 by decide)]
  simp only [toNat_packWord, List.map_append, List.sum_append, sum_slotField, List.map_cons, List.map_nil, List.sum_cons,
    List.sum_nil, List.cons.injEq, and_true, true_and]
  refine ⟨?_, ?_, ?_, ?_⟩ <;> omega

theorem CutReport.toNat_body (r : CutReport) :
    r.body.map BitVec.toNat =
      [2 ^ 31 * r.known.toNat + signed24 r.frame, slotValue r.slot 31 0 + 2 ^ 16 * (r.changed % 2 ^ 9),
        r.speed % 2 ^ 16] := by
  have known := r.known.toNat_le
  have frame := signed24_lt r.frame
  have slot := slotValue_le r.slot 31 0
  simp only [body, List.map_cons, List.map_nil, toNat_field (show 16 ≤ 32 by decide)]
  simp only [toNat_packWord, flagBit_eq, List.map_append, List.sum_append, sum_slotField, List.map_cons, List.map_nil,
    List.sum_cons, List.sum_nil, List.cons.injEq, and_true]
  refine ⟨?_, ?_⟩ <;> omega

theorem TransportCauses.toBits_eq (c : TransportCauses) :
    c.toBits = c.start.toNat + 2 * c.stop.toNat + 4 * c.reversal.toNat + 8 * c.limit.toNat := by
  simp only [toBits, flagBit_eq]

theorem TransportCauses.toBits_lt (c : TransportCauses) : c.toBits < 16 := by
  have start := c.start.toNat_le
  have stop := c.stop.toNat_le
  have reversal := c.reversal.toNat_le
  have limit := c.limit.toNat_le
  rw [toBits_eq]
  omega

theorem TransportReport.toNat_body (r : TransportReport) :
    r.body.map BitVec.toNat =
      [2 ^ 31 * directionBit r.direction + 2 ^ 30 * transportBit r.transport + 2 ^ 8 * (r.phase % 4) + r.causes.toBits,
        signed24 r.number] := by
  have direction := directionBit_le r.direction
  have transport := transportBit_le r.transport
  have causes := r.causes.toBits_lt
  have number := signed24_lt r.number
  simp only [body, List.map_cons, List.map_nil, toNat_field (show 24 ≤ 32 by decide), Nat.mod_eq_of_lt number]
  simp only [toNat_packWord, List.map_cons, List.map_nil, List.sum_cons, List.sum_nil, List.cons.injEq, and_true]
  omega

theorem Profile.toNat_body (p : Profile) :
    p.body.map BitVec.toNat =
      [2 ^ 31 * p.values.invert.toNat + 2 ^ 20 * p.values.base.r.toNat + 2 ^ 10 * p.values.base.g.toNat
          + p.values.base.b.toNat,
        2 ^ 16 * p.values.scale.g.toNat + p.values.scale.r.toNat,
        2 ^ 31 * (if p.mark = .complete then 1 else 0) + p.values.scale.b.toNat] := by
  have invert := p.values.invert.toNat_le
  have mark : flagBit (p.mark == .complete) = if p.mark = .complete then 1 else 0 := by cases p.mark <;> rfl
  have baseR := p.values.base.r.isLt
  have baseG := p.values.base.g.isLt
  have baseB := p.values.base.b.isLt
  have scaleR := p.values.scale.r.isLt
  have scaleG := p.values.scale.g.isLt
  have scaleB := p.values.scale.b.isLt
  simp only [body, toNat_packWord, mark, flagBit_eq, List.map_cons, List.map_nil, List.sum_cons, List.sum_nil,
    List.cons.injEq, and_true]
  refine ⟨?_, ?_, ?_⟩
  · omega
  · omega
  · split <;> omega

/-- The first body word of a PROFILE record. -/
theorem toNat_profileWord {read result : Nat} (hread : read ≤ 1) (hresult : result < 4) (n : Fin 32) :
    (packWord [⟨read, 31, 1⟩, ⟨result, 8, 2⟩, ⟨n.val, 0, 5⟩]).toNat = 2 ^ 31 * read + 2 ^ 8 * result + n.val := by
  have number := n.isLt
  simp only [toNat_packWord, List.map_cons, List.map_nil, List.sum_cons, List.sum_nil]
  omega

theorem FaultReport.toNat_details (f : FaultReport) :
    f.details.map BitVec.toNat =
      match f with
      | .dupStart loser holder => [loser.val, holder.val]
      | .startRange slot => [slot.val]
      | .partialSnoop address => [address % 2 ^ 26]
      | .setupRange address => [address % 2 ^ 26]
      | .consumerRange written head => [written.toNat, 2 ^ 31 * head.wrap.toNat + head.offset % 2 ^ 15]
      | .programRefused reason command n => [reason.code, 2 ^ 31 * command.code + n.val] := by
  have slot (i : Fin 512) : i.val % 2 ^ 9 = i.val := Nat.mod_eq_of_lt i.isLt
  cases f with
  | dupStart loser holder => simp only [details, List.map_cons, List.map_nil, toNat_field (show 9 ≤ 32 by decide), slot]
  | startRange i => simp only [details, List.map_cons, List.map_nil, toNat_field (show 9 ≤ 32 by decide), slot]
  | partialSnoop address | setupRange address =>
    simp only [details, List.map_cons, List.map_nil, toNat_field (show 26 ≤ 32 by decide)]
  | consumerRange written head => simp only [details, List.map_cons, List.map_nil, RingPointer.toNat_toWord]
  | programRefused reason command n =>
    have code : reason.code < 4 := by cases reason <;> decide
    have row : command.code ≤ 1 := by cases command <;> decide
    have number := n.isLt
    simp only [details, List.map_cons, List.map_nil, toNat_field (show 2 ≤ 32 by decide)]
    simp only [toNat_packWord, List.map_cons, List.map_nil, List.sum_cons, List.sum_nil, List.cons.injEq, and_true]
    omega

theorem Record.toNat_body_profileProgrammed (n : Fin 32) (result : ProgramResult) :
    (Record.profileProgrammed n result).body.map BitVec.toNat = [2 ^ 8 * result.code + n.val] := by
  have code : result.code < 4 := by cases result <;> decide
  rw [body, List.map_cons, toNat_profileWord (Nat.zero_le 1) code, Nat.mul_zero, Nat.zero_add, List.map_nil]

theorem Record.toNat_body_profileRead (n : Fin 32) (p : Profile) :
    (Record.profileRead n p).body.map BitVec.toNat = (2 ^ 31 + 2 ^ 8 * 2 + n.val) :: p.body.map BitVec.toNat := by
  rw [body, List.map_cons, toNat_profileWord (Nat.le_refl 1) (by decide), Nat.mul_one]

theorem Record.toNat_body_fault (f : FaultReport) :
    (Record.fault f).body.map BitVec.toNat = f.code :: f.details.map BitVec.toNat := by
  have code : f.code < 2 ^ 4 := by cases f <;> simp [FaultReport.code]
  rw [body, List.map_cons, toNat_field (by decide), Nat.mod_eq_of_lt code]

/-! ## The ring's formats -/

/-- Settles O49: the distances are those of the pointers' laps, the addresses those of `reportCells_record`, and the words
those of each record's body behind its header. -/
theorem ringWordsLieInRingOrder : Obligations.RingWordsLieInRingOrder := by
  refine ⟨fun s hh hc => ⟨fun lap order => ringDistance_same_lap hc hh lap order,
    fun lap _ => ringDistance_other_lap hc hh lap, fun k hk => ringDistance_advance hc hh hk⟩,
    fun s r rest hq head fits within => reportCells_record hq head fits within,
    fun r => ⟨r.length_words, r.length_eq⟩, ?_, fun p hp => pointerOf_toWord hp⟩
  intro r frameNumber reverse running slotAt hframe hforward hreverse hstopped hrunning hnone hsome
  obtain rfl : frameNumber = signed24 := funext hframe
  obtain rfl : reverse = directionBit := funext fun d => by cases d <;> assumption
  obtain rfl : running = transportBit := funext fun t => by cases t <;> assumption
  obtain rfl : slotAt = slotValue := by
    funext i present lo
    cases i with
    | none => exact hnone present lo
    | some i => exact hsome i present lo
  rw [Record.toNat_words]
  cases r with
  | frameSummary x =>
    have body := x.toNat_body
    rw [FrameFlags.toBits_eq] at body
    refine (congrArg (List.cons _) body).trans ?_
    dsimp only
    cases x.outcome with
    | judged n result => cases result <;> rfl
    | notJudged reason => cases reason <;> rfl
  | cut x => exact congrArg (List.cons _) x.toNat_body
  | transport x =>
    have body := x.toNat_body
    rw [TransportCauses.toBits_eq] at body
    exact congrArg (List.cons _) body
  | profileProgrammed n result =>
    rw [Record.toNat_body_profileProgrammed]
    cases result with
    | verified => exact congrArg (fun v => [_, v]) (Nat.zero_add n.val)
    | timedOut => rfl
  | profileRead n x =>
    rw [Record.toNat_body_profileRead, x.toNat_body]
    rfl
  | fault f =>
    rw [Record.toNat_body_fault, f.toNat_details]
    cases f with
    | programRefused reason command n => cases reason <;> cases command <;> rfl
    | _ => rfl

end Sys2Proof.Machine
end
